-- ==== Sys2Proof/Word.lean ====
section
/-! DEFINITION. The values of the block: bytes, 16-bit periods and 5-byte frames (00_scope.md R10, 30_encoding.md R70). -/

namespace Sys2Proof

/-- An unsigned 8-bit value; bit 0 is the least significant (R10). -/
abbrev Byte := BitVec 8

/-- An unsigned 16-bit value (R10). -/
abbrev U16 := BitVec 16

/-- Five bytes in wire order, `b0` first (R70). -/
structure Frame where
  b0 : Byte
  b1 : Byte
  b2 : Byte
  b3 : Byte
  b4 : Byte
deriving DecidableEq, Repr, Inhabited

end Sys2Proof
end

