-- ==== Sys2Proof/Config.lean ====
section
/-! DEFINITION. The parameters and fixed constants of the block (00_scope.md R6, R7) and the environment's free draw
(60_exceptions.md R201, R202). -/

namespace Sys2Proof

/-- `CONSUME_POLICY` (R6, R125): how many bytes a SetOutput frame consumes. -/
inductive ConsumePolicy where
  | faithful   -- 1 byte
  | uniform    -- 5 bytes
deriving DecidableEq, Repr, Inhabited

/-- `UNDERRUN_DIAG` (R6, R101): whether an empty pop reports UNDERRUN. -/
inductive UnderrunDiag where
  | signal
  | silent
deriving DecidableEq, Repr, Inhabited

/-- The implementation parameters (R6). No step changes one (R27). -/
structure Config where
  /-- `N`, the RingBuffer's capacity in bytes. -/
  capacity : Nat
  policy : ConsumePolicy
  underrunDiag : UnderrunDiag
deriving DecidableEq, Repr, Inhabited

namespace Config

/-- The legal values: any `N >= 1` (R6). -/
abbrev legal (c : Config) : Prop := 1 ≤ c.capacity

/-- "This hardware" (R6): `N = 50`, FAITHFUL, SIGNAL. Log entry 1. -/
def reference : Config := { capacity := 50, policy := .faithful, underrunDiag := .signal }

/-- `FRAME_LEN` (R7). -/
def frameLen : Nat := 5

/-- `MARKER` (R7, R72). -/
def marker : Byte := 0xFF#8

/-- `CMD_SETPERIOD` (R7, R73). -/
def cmdSetPeriod : Byte := 0x01#8

/-- `CMD_SETOUTPUT_ON` (R7, R73). -/
def cmdOutOn : Byte := 0x02#8

/-- `CMD_SETOUTPUT_OFF` (R7, R73). -/
def cmdOutOff : Byte := 0x03#8

/-- `RSP_CMD` (R7, R78). -/
def rspCmd : Byte := 0x02#8

/-- `SENTINEL` (R7). -/
def sentinel : Byte := 0x00#8

end Config

/-- Which step the scheduler and the environment pick (R202), the reset input being one of the picks (R240). -/
inductive Turn where
  | accept
  | producer
  | consumer
  /-- The reset input is asserted; the argument is what the transport still offers after it, which the spec leaves
  outside the block (R242, log entry 4). -/
  | reset (kept : List Byte)
deriving DecidableEq, Repr, Inhabited

/-- The environment's draw at one step boundary (R201): a byte it newly offers, if any, the level of `tx_ready`, and the
pick among the steps. -/
structure Input where
  offer : Option Byte
  txReady : Bool
  turn : Turn
deriving DecidableEq, Repr, Inhabited

/-- DESIGN CHOICE (log entry 3): the draws after the listed ones are free. No body: nothing can be proved of a value. -/
opaque Config.freeInput : Nat → Input

end Sys2Proof
end

