-- ==== Sys2Proof/Syntax.lean ====
section
/-! DEFINITION. The block's instructions: one constructor per row of spec/opcode_table.json (00_scope.md R2, 30_encoding.md R85). -/

namespace Sys2Proof

/-- The frame classes, the transmitted frames and bytes, and the RingBuffer's operations. Bytes of a window are named
as the consumer latches them: marker, command, dataHigh, dataLow, escapeMask (R71). -/
inductive Instr where
  /-- A window that does not start with the marker (R76, R123). -/
  | desync (m c h l e : Byte)
  /-- Marker, 0x01, payload (R73, R126). -/
  | setperiod (h l e : Byte)
  /-- Marker, 0x02, ignored payload (R73, R124, R125). -/
  | outon (h l e : Byte)
  /-- Marker, 0x03, ignored payload (R73, R124, R125). -/
  | outoff (h l e : Byte)
  /-- Marker and an unrecognised command (R76, R127). -/
  | invalid (c h l e : Byte)
  /-- The response frame for period `p`, transmitted (R78, R173). -/
  | response (p : U16)
  /-- The overrun diagnostic byte, transmitted (R79, R177). -/
  | diagE
  /-- The underrun diagnostic byte, transmitted (R79, R178). -/
  | diagU
  /-- `PUSH b` (R84, R100). -/
  | push (b : Byte)
  /-- `POP` (R84, R101). -/
  | pop
  /-- `PEEK i` (R84, R102). -/
  | peek (i : Nat)
  /-- `COUNT` (R84, R103). -/
  | count
deriving DecidableEq, Repr

end Sys2Proof
end

