-- ==== Sys2Proof/Machine/State.lean ====
section
/-! DEFINITION. The state of the block (10_state.md R20), the model's own fields beside it, its reset (R35), and the
reasons a step can stop. -/

namespace Sys2Proof.Machine

/-- The producer's states (R32). -/
inductive PState where
  | idle   -- P_IDLE
  | diag   -- P_DIAG
deriving DecidableEq, Repr

/-- The consumer's states (R28). -/
inductive CState where
  | idle    -- S_IDLE
  | out     -- S_OUT
  | drop    -- S_DROP
  | udiag   -- S_UDIAG
  | pg      -- S_PG
  | tx      -- S_TX
deriving DecidableEq, Repr

/-- The range of `dnext` (R20): the state entered when `drop` reaches 0. -/
inductive DNext where
  | idle
  | pg
deriving DecidableEq, Repr

/-- The status of a `push` (R26, R100). -/
inductive PushStatus where
  | ok
  | overrun
deriving DecidableEq, Repr

/-- The status of a `pop` (R26, R101). -/
inductive PopStatus where
  | ok
  | underrun
deriving DecidableEq, Repr

/-- The external events of the trace (R12, R204). -/
inductive Event where
  | rx (b : Byte) (st : PushStatus)
  | out (v : Bool)
  | pg (p a b : U16)
  | tx (b : Byte)
deriving DecidableEq, Repr

/-- What the RingBuffer's interface answers a request (R84). Log entry 7. -/
inductive Answer where
  | none
  | pushed (st : PushStatus)
  | popped (v : Byte) (st : PopStatus)
  | peeked (v : Byte)
  | counted (n : Nat)
deriving DecidableEq, Repr

/-- The RingBuffer's storage: the bytes that differ from what an unlisted address reads as, addresses rising. -/
abbrev Memory := List Host.Cell

/-- The state. `mem` to `rsn` are R20's fields under its names; `cfg` holds the parameters of R6 (log entry 1); the rest
is the model's own. -/
structure State where
  cfg : Config
  mem : Memory
  head : Nat
  tail : Nat
  count : Nat
  pst : PState
  cst : CState
  fm : Byte
  fc : Byte
  fh : Byte
  fl : Byte
  fe : Byte
  outv : Bool
  period : U16
  drop : Nat
  dnext : DNext
  rsp : Frame
  rsn : Nat
  /-- The events so far, oldest first (R204; log entry 8). -/
  trace : List Event
  /-- The last answer on the RingBuffer's interface (R84; log entry 7). -/
  answer : Answer
  /-- Bytes offered and not yet accepted, oldest first (R201, R203; log entry 4). -/
  rx : List Byte
  /-- `tx_ready` as drawn for this step (R201; log entry 3). -/
  txReady : Bool
  /-- The environment's draws to come, next first (R201, R202; log entry 3). -/
  inputs : List Input
  /-- Which free draw comes next once `inputs` is empty (log entry 3). -/
  tick : Nat
deriving DecidableEq, Repr

/-- Where a step stops. Each is raised only in a state in which a register is outside the range R20 gives it, which no
run from reset reaches; all are safe (log entry 11). -/
inductive Fault where
  /-- Raised by PUSH, POP, PEEK and the scan pass: storage byte `j` does not exist, `j >= N` (R12, R50). Safe. -/
  | storageIndex (j : Nat)
  /-- Raised by the discard step: `drop` would leave its range `0..5` below 0 (R20, R128). Safe. -/
  | dropUnderflow
  /-- Raised by RESPONSE: `rsp[rsn]` does not exist, `rsn >= 5` (R20, R175). Safe. -/
  | responseIndex (n : Nat)
deriving DecidableEq, Repr

/-- Why the model gives an instruction no meaning. -/
inductive Refusal where
  /-- Raised by an arm of `exec` whose instruction has no meaning yet; no arm of this model does. Safe. -/
  | notModelled (mnemonic : String)
deriving DecidableEq, Repr

/-- The state after reset under the parameters `c` (R35). `fm` to `fe`, `outv`, `period`, `rsp` and the bytes of `mem`
are unspecified there and 0 here. DESIGN CHOICE (log entry 2; R36). -/
def State.resetWith (c : Config) : State where
  cfg := c
  mem := []
  head := 0
  tail := 0
  count := 0
  pst := .idle
  cst := .idle
  fm := 0x00#8
  fc := 0x00#8
  fh := 0x00#8
  fl := 0x00#8
  fe := 0x00#8
  outv := false
  period := 0x0000#16
  drop := 0
  dnext := .idle
  rsp := { b0 := 0x00#8, b1 := 0x00#8, b2 := 0x00#8, b3 := 0x00#8, b4 := 0x00#8 }
  rsn := 0
  trace := []
  answer := .none
  rx := []
  txReady := false
  inputs := []
  tick := 0

/-- The machine right after reset: R35 under the parameters of "this hardware" (R6). -/
def State.reset : State := State.resetWith Config.reference

end Sys2Proof.Machine
end

