-- ==== Sys2Proof/Machine/Flags.lean ====
section
/-! DEFINITION. The block has no flag register (10_state.md R26): its flags are the statuses an operation returns, each a
function of the state before the operation, consumed in the same step. -/

namespace Sys2Proof.Machine

/-- The status `push` returns: OVERRUN exactly when `count = N` (R100; `count <= N` by R23). -/
def pushStatus (s : State) : PushStatus := if s.count < s.cfg.capacity then .ok else .overrun

/-- The status `pop` returns on an empty buffer, by variant (R101). -/
def emptyPopStatus (c : Config) : PopStatus :=
  match c.underrunDiag with
  | .signal => .underrun
  | .silent => .ok

/-- The status `pop` returns: UNDERRUN exactly when `count = 0` and the variant is SIGNAL (R101). -/
def popStatus (s : State) : PopStatus := if 0 < s.count then .ok else emptyPopStatus s.cfg

/-- The producer's state after a push with this status (R202). -/
def producerAfterPush : PushStatus → PState
  | .ok => .idle
  | .overrun => .diag

end Sys2Proof.Machine
end

