-- ==== Sys2Proof/WellFormed.lean ====
section
/-! DEFINITION. Which terms of Instr stand for an encoding (30_encoding.md R76), and the sender's predicate on frames (R80). -/

namespace Sys2Proof

/-- A command byte one of the three recognised ones (R73). -/
def recognisedCommand (c : Byte) : Bool :=
  c == Config.cmdSetPeriod || c == Config.cmdOutOn || c == Config.cmdOutOff

/-- The conditions R76 puts on the operands of a class: a DESYNC window has no marker at its head, an INVALID one has an
unrecognised command. Every other operand may take any value. -/
def Instr.wellFormed : Instr → Bool
  | .desync m _ _ _ _ => m != Config.marker
  | .setperiod _ _ _ => true
  | .outon _ _ _ => true
  | .outoff _ _ _ => true
  | .invalid c _ _ _ => !recognisedCommand c
  | .response _ => true
  | .diagE => true
  | .diagU => true
  | .push _ => true
  | .pop => true
  | .peek _ => true
  | .count => true

/-- R80: what the spec calls a well-formed frame of a sender. The block does not check it. -/
def Frame.senderWellFormed (f : Frame) : Bool :=
  f.b0 == Config.marker && f.b1 != Config.marker && f.b4 != Config.marker
    && (f.b2 != Config.marker || f.b4.getLsbD 0) && (f.b3 != Config.marker || f.b4.getLsbD 1)

end Sys2Proof
end

