-- ==== Sys2Proof/Decode.lean ====
section
/-! DEFINITION. Decoding and encoding (30_encoding.md R70 to R85): the classification of a head window, the formats the
block transmits, the requests of the RingBuffer's interface, and the spec's frame items. -/

namespace Sys2Proof

/-- The classes of R76. -/
inductive FrameClass where
  | desync
  | setperiod
  | outon
  | outoff
  | invalid
deriving DecidableEq, Repr

/-- The requests of R84. They have no bit pattern. -/
inductive Request where
  | push (b : Byte)
  | pop
  | peek (i : Nat)
  | count
deriving DecidableEq, Repr

/-- What stands for an instruction outside the block, by the table's direction (R85): bytes received, bytes transmitted,
or a request inside it. The direction is needed: RESPONSE and OUTON share their bytes (R252, log entry 12). -/
inductive Code where
  | received (bytes : List Byte)
  | transmitted (bytes : List Byte)
  | request (r : Request)
deriving DecidableEq, Repr

/-- Why the decoder rejects. Safe: nothing is run. -/
inductive DecodeError where
  /-- Received or transmitted bytes that are neither a frame of 5 (R81) nor, outbound, a single byte. -/
  | wrongLength (n : Nat)
  /-- Five transmitted bytes that are no response frame (R78). -/
  | notAResponse (f : Frame)
  /-- A transmitted byte on its own that is no diagnostic byte (R79). -/
  | notADiagnostic (b : Byte)
deriving DecidableEq, Repr

/-- `DIAG_OVERRUN`, ASCII 'E' (R7, R79). PRESUMED: the number is general knowledge (log entry 10). -/
def diagOverrun : Byte := 0x45#8

/-- `DIAG_UNDERRUN`, ASCII 'U' (R7, R79). PRESUMED: the number is general knowledge (log entry 10). -/
def diagUnderrun : Byte := 0x55#8

/-- The bytes of a frame in wire order (R70). -/
def Frame.toList (f : Frame) : List Byte := [f.b0, f.b1, f.b2, f.b3, f.b4]

/-- `zext_16(h) << 8 | zext_16(l)`: the big-endian 16-bit value of two bytes (R54, R75, R151). -/
def joinBytes (h l : Byte) : U16 := (h.setWidth 16 <<< 8) ||| l.setWidth 16

/-- `(p >> 8) & 0xFF` (R78). -/
def upperByte (p : U16) : Byte := (p >>> 8).setWidth 8

/-- `p & 0xFF` (R78). -/
def lowerByte (p : U16) : Byte := p.setWidth 8

/-- `esc(p)` (R83), the mask of R78: bit 0 for an upper byte 0xFF, bit 1 for a lower one, bits 7 to 2 zero. -/
def esc (p : U16) : Byte :=
  (if upperByte p = Config.marker then 0x01#8 else 0x00#8) ||| (if lowerByte p = Config.marker then 0x02#8 else 0x00#8)

/-- `buildResponse(p)` (R173): the response frame of R78, data bytes unsubstituted (R174). -/
def buildResponse (p : U16) : Frame :=
  { b0 := Config.marker, b1 := Config.rspCmd, b2 := upperByte p, b3 := lowerByte p, b4 := esc p }

/-- `classify(fm, fc)`, in the order R76 tests. -/
def classify (fm fc : Byte) : FrameClass :=
  if fm = Config.marker then
    if fc = Config.cmdSetPeriod then .setperiod
    else if fc = Config.cmdOutOn then .outon
    else if fc = Config.cmdOutOff then .outoff
    else .invalid
  else .desync

/-- The instruction a head window stands for. Total: every window has exactly one class (R76). -/
def decodeFrame (f : Frame) : Instr :=
  match classify f.b0 f.b1 with
  | .desync => .desync f.b0 f.b1 f.b2 f.b3 f.b4
  | .setperiod => .setperiod f.b2 f.b3 f.b4
  | .outon => .outon f.b2 f.b3 f.b4
  | .outoff => .outoff f.b2 f.b3 f.b4
  | .invalid => .invalid f.b1 f.b2 f.b3 f.b4

/-- Received bytes: exactly one frame (R81). -/
def decodeReceived : List Byte → Except DecodeError Instr
  | [b0, b1, b2, b3, b4] => .ok (decodeFrame { b0, b1, b2, b3, b4 })
  | bytes => .error (.wrongLength bytes.length)

/-- Transmitted bytes: a diagnostic byte (R79) or a response frame (R78). -/
def decodeTransmitted : List Byte → Except DecodeError Instr
  | [b] =>
    if b = diagOverrun then .ok .diagE
    else if b = diagUnderrun then .ok .diagU
    else .error (.notADiagnostic b)
  | [b0, b1, b2, b3, b4] =>
    if ({ b0, b1, b2, b3, b4 } : Frame) = buildResponse (joinBytes b2 b3) then .ok (.response (joinBytes b2 b3))
    else .error (.notAResponse { b0, b1, b2, b3, b4 })
  | bytes => .error (.wrongLength bytes.length)

/-- A request is its operation (R84). -/
def decodeRequest : Request → Instr
  | .push b => .push b
  | .pop => .pop
  | .peek i => .peek i
  | .count => .count

/-- The decoder: total on every code, rejecting by name. -/
def decode : Code → Except DecodeError Instr
  | .received bytes => decodeReceived bytes
  | .transmitted bytes => decodeTransmitted bytes
  | .request r => .ok (decodeRequest r)

/-- The encoder, from R71, R73, R78, R79 and R84. -/
def encode : Instr → Code
  | .desync m c h l e => .received [m, c, h, l, e]
  | .setperiod h l e => .received [Config.marker, Config.cmdSetPeriod, h, l, e]
  | .outon h l e => .received [Config.marker, Config.cmdOutOn, h, l, e]
  | .outoff h l e => .received [Config.marker, Config.cmdOutOff, h, l, e]
  | .invalid c h l e => .received [Config.marker, c, h, l, e]
  | .response p => .transmitted (buildResponse p).toList
  | .diagE => .transmitted [diagOverrun]
  | .diagU => .transmitted [diagUnderrun]
  | .push b => .request (.push b)
  | .pop => .request .pop
  | .peek i => .request (.peek i)
  | .count => .request .count

/-- Bits `lo + 7` down to `lo` of a number, as a byte. -/
def byteAt (w lo : Nat) : Byte := BitVec.ofNat 8 (w >>> lo)

/-- The frame of the 40-bit value `F`: `b0 = F[39:32]` down to `b4 = F[7:0]` (R70). -/
def frameOfNumber (w : Nat) : Frame :=
  { b0 := byteAt w 32, b1 := byteAt w 24, b2 := byteAt w 16, b3 := byteAt w 8, b4 := byteAt w 0 }

/-- The code of a table row's bits, numbered as the table numbers them: a FRAME5 row over `F` (R70, R85), read as
received; a BYTE row as a transmitted byte; a PORT row has no bits (R84). Log entry 12. -/
def codeOfTableWord (nbits w : Nat) : Option Code :=
  if nbits = 40 then some (.received (frameOfNumber w).toList)
  else if nbits = 8 then some (.transmitted [byteAt w 0])
  else none

/-- The instruction the decoder reads from a table row's bits; none where it refuses. -/
def decodeTableWord (nbits w : Nat) : Option Instr :=
  match codeOfTableWord nbits w with
  | some c => (decode c).toOption
  | none => none

/-- The items of the spec's frame streams (R83). -/
inductive StreamItem where
  | bytes (bs : List Byte)
  | frame (c h l e : Byte)
  | setPeriod (p : U16)
  /-- `SETPERIOD.S p`: each data byte 0xFF replaced by the placeholder 0x00. -/
  | setPeriodStuffed (p : U16)
  | outOn
  | outOff
  | response (p : U16)
deriving DecidableEq, Repr

/-- The placeholder `SETPERIOD.S` sends for a data byte 0xFF (R83). -/
def stuff (b : Byte) : Byte := if b = Config.marker then 0x00#8 else b

/-- The bytes of an item in wire order (R83). -/
def StreamItem.expand : StreamItem → List Byte
  | .bytes bs => bs
  | .frame c h l e => [Config.marker, c, h, l, e]
  | .setPeriod p => [Config.marker, Config.cmdSetPeriod, upperByte p, lowerByte p, esc p]
  | .setPeriodStuffed p => [Config.marker, Config.cmdSetPeriod, stuff (upperByte p), stuff (lowerByte p), esc p]
  | .outOn => [Config.marker, Config.cmdOutOn, 0x00#8, 0x00#8, 0x00#8]
  | .outOff => [Config.marker, Config.cmdOutOff, 0x00#8, 0x00#8, 0x00#8]
  | .response p => (buildResponse p).toList

/-- The bytes of a stream of items. -/
def expandAll (items : List StreamItem) : List Byte := items.flatMap StreamItem.expand

end Sys2Proof
end

