-- ==== Sys2Proof/Machine/Operands.lean ====
section
/-! DEFINITION. The FrameDecoder (42_decoder.md) and the operands of the actuator calls (43_dispatch_response.md R171). -/

namespace Sys2Proof.Machine

/-- `restore(raw, bit)` (R150): a set escape bit forces the marker value, whatever was received. -/
def restore (raw : Byte) (bit : Bool) : Byte := if bit then Config.marker else raw

/-- `decodePeriod(fh, fl, fe)` (R151): mask bit 0 belongs to the high byte, bit 1 to the low one (R74). -/
def decodePeriod (fh fl fe : Byte) : U16 := joinBytes (restore fh (fe.getLsbD 0)) (restore fl (fe.getLsbD 1))

/-- "Command (post-decode)" (R152). -/
inductive TypedCommand where
  | setOutput (on : Bool)
  | setPeriod (period : U16)
deriving DecidableEq, Repr

/-- `typeCommand(class, fh, fl, fe)` (R152); restoration applies to SetPeriod only (R155). -/
def typeCommand (k : FrameClass) (fh fl fe : Byte) : Option TypedCommand :=
  match k with
  | .setperiod => some (.setPeriod (decodePeriod fh fl fe))
  | .outon => some (.setOutput true)
  | .outoff => some (.setOutput false)
  | .invalid => none
  | .desync => none

/-- Channel A's duty, `p div 2` (R171). -/
def dutyA (p : U16) : U16 := p / 2#16

/-- Channel B's duty, `p div 4` (R171). -/
def dutyB (p : U16) : U16 := p / 4#16

/-- How many bytes a SetOutput frame consumes (R125). -/
def outputDrop (c : Config) : Nat :=
  match c.policy with
  | .faithful => 1
  | .uniform => Config.frameLen

/-- Byte `n` of a frame, `n` from 0; none past its end. -/
def frameByte (f : Frame) (n : Nat) : Option Byte := f.toList[n]?

/-- The consumer state `dnext` names (R20, R31). -/
def DNext.toCState : DNext → CState
  | .idle => .idle
  | .pg => .pg

end Sys2Proof.Machine
end

