-- ==== Sys2Proof/Machine/Ops.lean ====
section
/-! DEFINITION. The named operations: the storage, the RingBuffer (40_ringbuffer.md), the consumer's steps
(41_scanner.md, 43_dispatch_response.md), the arrival handler's entry and return (60_exceptions.md R202, R210, R211) and
the environment's inputs (R201). -/

namespace Sys2Proof.Machine

/-! ## Storage -/

/-- What a storage byte nothing has written reads as. DESIGN CHOICE (log entry 2); never returned by an operation (R36). -/
def Memory.unlisted : Byte := 0x00#8

/-- The byte at an index. -/
def Memory.read : Memory → Nat → Byte
  | [], _ => Memory.unlisted
  | (a, b) :: m, j => if a = j then b else Memory.read m j

/-- The storage with `v` at `j`, in canonical form: writing the unlisted value removes the entry. -/
def Memory.write : Memory → Nat → Byte → Memory
  | [], j, v => if v = Memory.unlisted then [] else [(j, v)]
  | (a, b) :: m, j, v =>
    if j < a then
      if v = Memory.unlisted then (a, b) :: m else (j, v) :: (a, b) :: m
    else if j = a then
      if v = Memory.unlisted then m else (j, v) :: m
    else (a, b) :: Memory.write m j v

/-- The canonical form: addresses strictly rising, no entry equal to the unlisted value. -/
abbrev Memory.wf (m : Memory) : Prop :=
  List.Pairwise (fun c d => c.1 < d.1) m ∧ ∀ c ∈ m, c.2 ≠ Memory.unlisted

/-- `MemRead(j, 1)` (R12), for `0 <= j < N`; there is no other storage byte. -/
def State.memRead (s : State) (j : Nat) : Except Fault Byte :=
  if j < s.cfg.capacity then .ok (s.mem.read j) else .error (.storageIndex j)

/-! ## Results -/

/-- `hold` (R12): the agent has no enabled step; its state is unchanged. Log entry 5. -/
def hold (s : State) : Host.Outcome State Fault Refusal := .next s

/-- What the caller of an operation does with the state the operation leaves. -/
def thenUpdate (o : Host.Outcome State Fault Refusal) (f : State → State) : Host.Outcome State Fault Refusal :=
  match o with
  | .next s => .next (f s)
  | .fault r => .fault r
  | .refused r => .refused r

/-- Go on with what an access answers, or stop with its fault. -/
def orFault {α : Type} (r : Except Fault α) (k : α → Host.Outcome State Fault Refusal) :
    Host.Outcome State Fault Refusal :=
  match r with
  | .ok v => k v
  | .error f => .fault f

/-! ## Updates of the state -/

/-- Append an external event to the trace (R204). -/
def State.emit (s : State) (e : Event) : State := { s with trace := s.trace ++ [e] }

/-- The RingBuffer's answer to a request (R84). -/
def State.reply (s : State) (a : Answer) : State := { s with answer := a }

/-- The storing half of R100: the byte goes to `mem[head]`. -/
def State.storeByte (s : State) (b : Byte) : State :=
  { s with mem := s.mem.write s.head b, head := (s.head + 1) % s.cfg.capacity, count := s.count + 1 }

/-- The removing half of R101. -/
def State.removeOldest (s : State) : State :=
  { s with tail := (s.tail + 1) % s.cfg.capacity, count := s.count - 1 }

/-- The five latches of a scan pass (R29, R122). -/
def State.latch (s : State) (w : Frame) : State :=
  { s with fm := w.b0, fc := w.b1, fh := w.b2, fl := w.b3, fe := w.b4 }

/-- Start discarding `n` bytes and go on to `d` (R31). -/
def State.startDrop (s : State) (n : Nat) (d : DNext) : State := { s with drop := n, dnext := d, cst := .drop }

/-- A pending `setOutput` call (R30, R124). -/
def State.pendOutput (s : State) (v : Bool) : State := { s with outv := v, cst := .out }

/-- The decoded period (R31, R126). -/
def State.withPeriod (s : State) (p : U16) : State := { s with period := p }

/-- The consumer's next state. -/
def State.goto (s : State) (c : CState) : State := { s with cst := c }

/-- The response frame built and its transmission begun (R170, R173). -/
def State.startResponse (s : State) (p : U16) : State := { s with rsp := buildResponse p, rsn := 0, cst := .tx }

/-- One more response byte sent: the last one ends the poll cycle (R175). -/
def State.advanceResponse (s : State) : State :=
  { s with rsn := s.rsn + 1, cst := if s.rsn = 4 then .idle else .tx }

/-- The rest of R128 after its `pop`, whose status is `st`. -/
def State.afterDiscard (s : State) (st : PopStatus) : State :=
  { s with
    drop := s.drop - 1
    cst := match st with
      | .underrun => .udiag
      | .ok => if s.drop - 1 = 0 then s.dnext.toCState else .drop }

/-- ACCEPT after its `push`, whose status is `st` (R202): the arrival handler's entry. It saves nothing and changes
nothing of the consumer (R210). A push that succeeds ends the handler in this step; one that overruns leaves it running. -/
def State.handlerEntry (s : State) (b : Byte) (st : PushStatus) : State :=
  { s with trace := s.trace ++ [.rx b st], rx := s.rx.tail, pst := producerAfterPush st }

/-- The arrival handler's return (R211). -/
def State.handlerReturn (s : State) : State := { s with pst := .idle }

/-! ## The RingBuffer's operations -/

/-- `push(b)` (R100). -/
def ringPush (b : Byte) (s : State) : Host.Outcome State Fault Refusal :=
  match pushStatus s with
  | .ok =>
    if s.head < s.cfg.capacity then .next ((s.storeByte b).reply (.pushed .ok)) else .fault (.storageIndex s.head)
  | .overrun => .next (s.reply (.pushed .overrun))

/-- `pop()` (R101). -/
def ringPop (s : State) : Host.Outcome State Fault Refusal :=
  if 0 < s.count then
    orFault (s.memRead s.tail) fun v => .next (s.removeOldest.reply (.popped v .ok))
  else .next (s.reply (.popped Config.sentinel (emptyPopStatus s.cfg)))

/-- `peek(i)` (R102): the byte, or the sentinel past the last element. Offset `i` is index `(tail + i) mod N` (R52). -/
def State.peekByte (s : State) (i : Nat) : Except Fault Byte :=
  if i < s.count then s.memRead ((s.tail + i) % s.cfg.capacity) else .ok Config.sentinel

/-- `peek(i)` as a request: it changes no state of the block (R109). -/
def ringPeek (i : Nat) (s : State) : Host.Outcome State Fault Refusal :=
  orFault (s.peekByte i) fun v => .next (s.reply (.peeked v))

/-- `count()` (R103). -/
def ringCount (s : State) : Host.Outcome State Fault Refusal := .next (s.reply (.counted s.count))

/-- The logical content `q`, oldest first (R25). -/
def State.q (s : State) : List Byte :=
  (List.range s.count).map fun k => s.mem.read ((s.tail + k) % s.cfg.capacity)

/-! ## The consumer's steps -/

/-- A consumer step needs `pst = P_IDLE` (R120, R203); with an arrival handler running the consumer holds. -/
def consumerOnly (s : State) (t : State) : Host.Outcome State Fault Refusal :=
  if s.pst = .idle then .next t else hold s

/-- A step that transmits also needs `tx_ready` (R175, R176, R178). -/
def transmitOnly (s : State) (t : State) : Host.Outcome State Fault Refusal :=
  if s.txReady then consumerOnly s t else hold s

/-- The guard of a scan pass (R121), in `S_IDLE`. -/
abbrev State.scanEnabled (s : State) : Prop :=
  s.pst = .idle ∧ s.cst = .idle ∧ Config.frameLen ≤ s.count

/-- "The consumer realises the typed command as its registers" (R152): R124 for SetOutput, R126 for SetPeriod, and with
no command one byte is discarded and the scan restarts (R123, R127). -/
def State.realise (s : State) : Option TypedCommand → State
  | some (.setOutput v) => s.pendOutput v
  | some (.setPeriod p) => (s.withPeriod p).startDrop Config.frameLen .pg
  | none => s.startDrop 1 .idle

/-- The scan pass that finds the window `w`, of class `k` (R122): it latches the window and realises its command. -/
def scanPass (k : FrameClass) (w : Frame) (s : State) : Host.Outcome State Fault Refusal :=
  if s.scanEnabled then .next ((s.latch w).realise (typeCommand k w.b2 w.b3 w.b4)) else hold s

/-- The `S_OUT` step with level `v` (R125, R172): the call, then the frame's consumption by policy. -/
def callOutput (v : Bool) (s : State) : Host.Outcome State Fault Refusal :=
  consumerOnly s ((s.emit (.out v)).startDrop (outputDrop s.cfg) .idle)

/-- The `S_PG` step (R170): the call, then the response is built and its transmission begun. -/
def callPulseGenerator (s : State) : Host.Outcome State Fault Refusal :=
  consumerOnly s ((s.emit (.pg s.period (dutyA s.period) (dutyB s.period))).startResponse s.period)

/-- The `S_TX` step (R175): one byte of `rsp`. -/
def sendResponseByte (s : State) : Host.Outcome State Fault Refusal :=
  match frameByte s.rsp s.rsn with
  | some b => transmitOnly s (s.emit (.tx b)).advanceResponse
  | none => .fault (.responseIndex s.rsn)

/-- The `S_UDIAG` step (R178). -/
def sendUnderrunByte (s : State) : Host.Outcome State Fault Refusal :=
  transmitOnly s ((s.emit (.tx diagUnderrun)).goto (if s.drop = 0 then s.dnext.toCState else .drop))

/-- The `P_DIAG` step (R177): the byte 'E', then the handler returns. -/
def sendOverrunByte (s : State) : Host.Outcome State Fault Refusal :=
  if s.txReady then .next (s.emit (.tx diagOverrun)).handlerReturn else hold s

/-! ## The environment -/

/-- The draw of this step: the next listed one, or a free one (log entry 3). -/
def State.nextInput (s : State) : Input :=
  match s.inputs with
  | i :: _ => i
  | [] => Config.freeInput s.tick

/-- The state with this step's draw taken: its byte joins the offered ones (R201, R203) and its `tx_ready` holds. -/
def State.sample (s : State) : State :=
  { s with
    rx := s.rx ++ s.nextInput.offer.toList
    txReady := s.nextInput.txReady
    inputs := s.inputs.tail
    tick := if s.inputs.isEmpty then s.tick + 1 else s.tick }

/-- The reset input (R240): every field of R20 at its reset value (R35), nothing called, nothing emitted; `kept` is what
the transport still offers (R242, log entry 4). The parameters are not state (R27). -/
def State.resetBlock (s : State) (kept : List Byte) : State :=
  { State.resetWith s.cfg with trace := s.trace, rx := kept, txReady := s.txReady, inputs := s.inputs, tick := s.tick }

end Sys2Proof.Machine
end

