-- ==== Sys2Proof/Machine/Frames.lean ====
section
/-! DEFINITION. The meanings of the received frames. A meaning is the one atomic step (00_scope.md R12, 20_memory.md R55)
the instruction takes in the consumer's present state: its recognition in `S_IDLE` (41_scanner.md R122), then its call in
`S_OUT` (R125) or `S_PG` (43_dispatch_response.md R170). In any other state it has no step and holds (log entry 6); the
discards between are POP's (R128). -/

namespace Sys2Proof.Machine

/-- DESYNC (R123). -/
def execDesync (m c h l e : Byte) (s : State) : Host.Outcome State Fault Refusal :=
  scanPass .desync { b0 := m, b1 := c, b2 := h, b3 := l, b4 := e } s

/-- INVALID (R127). -/
def execInvalid (c h l e : Byte) (s : State) : Host.Outcome State Fault Refusal :=
  scanPass .invalid { b0 := Config.marker, b1 := c, b2 := h, b3 := l, b4 := e } s

/-- OUTON (R124, R125). -/
def execOutOn (h l e : Byte) (s : State) : Host.Outcome State Fault Refusal :=
  if s.cst = .out then callOutput true s
  else scanPass .outon { b0 := Config.marker, b1 := Config.cmdOutOn, b2 := h, b3 := l, b4 := e } s

/-- OUTOFF (R124, R125). -/
def execOutOff (h l e : Byte) (s : State) : Host.Outcome State Fault Refusal :=
  if s.cst = .out then callOutput false s
  else scanPass .outoff { b0 := Config.marker, b1 := Config.cmdOutOff, b2 := h, b3 := l, b4 := e } s

/-- SETPERIOD (R126, R170). In `S_PG` the operand is the register `period` (R31). -/
def execSetPeriod (h l e : Byte) (s : State) : Host.Outcome State Fault Refusal :=
  if s.cst = .pg then callPulseGenerator s
  else scanPass .setperiod { b0 := Config.marker, b1 := Config.cmdSetPeriod, b2 := h, b3 := l, b4 := e } s

end Sys2Proof.Machine
end

