-- ==== Sys2Proof/Machine/RingBuffer.lean ====
section
/-! DEFINITION. The meanings of the RingBuffer's operations (40_ringbuffer.md): always enabled, whichever agent asks. -/

namespace Sys2Proof.Machine

/-- PUSH (R100). -/
def execPush (b : Byte) (s : State) : Host.Outcome State Fault Refusal := ringPush b s

/-- POP (R101). -/
def execPop (s : State) : Host.Outcome State Fault Refusal := ringPop s

/-- PEEK (R102). -/
def execPeek (i : Nat) (s : State) : Host.Outcome State Fault Refusal := ringPeek i s

/-- COUNT (R103). -/
def execCount (s : State) : Host.Outcome State Fault Refusal := ringCount s

end Sys2Proof.Machine
end

