-- ==== Sys2Proof/Machine/Transmit.lean ====
section
/-! DEFINITION. The meanings of what the block transmits (43_dispatch_response.md): each is the one atomic step it takes
in the agent's present state; in any other state it holds (log entry 6). -/

namespace Sys2Proof.Machine

/-- RESPONSE (R173, R175): built in `S_PG`, where the Dispatcher invokes the ResponseEncoder, then sent a byte a step in
`S_TX` from `rsp`, which by then holds the frame. -/
def execResponse (p : U16) (s : State) : Host.Outcome State Fault Refusal :=
  match s.cst with
  | .pg => consumerOnly s (s.startResponse p)
  | .tx => sendResponseByte s
  | _ => hold s

/-- DIAG_E (R177). -/
def execDiagE (s : State) : Host.Outcome State Fault Refusal :=
  if s.pst = .diag then sendOverrunByte s else hold s

/-- DIAG_U (R178). -/
def execDiagU (s : State) : Host.Outcome State Fault Refusal :=
  if s.cst = .udiag then sendUnderrunByte s else hold s

end Sys2Proof.Machine
end

