-- ==== Sys2Proof/Machine/Dispatch.lean ====
section
/-! DEFINITION. One arm per row of spec/opcode_table.json. -/

namespace Sys2Proof.Machine

def exec (i : Instr) (s : State) : Host.Outcome State Fault Refusal :=
  match i with
  | .desync m c h l e => Sys2Proof.Machine.execDesync m c h l e s
  | .setperiod h l e => Sys2Proof.Machine.execSetPeriod h l e s
  | .outon h l e => Sys2Proof.Machine.execOutOn h l e s
  | .outoff h l e => Sys2Proof.Machine.execOutOff h l e s
  | .invalid c h l e => Sys2Proof.Machine.execInvalid c h l e s
  | .response p => Sys2Proof.Machine.execResponse p s
  | .diagE => Sys2Proof.Machine.execDiagE s
  | .diagU => Sys2Proof.Machine.execDiagU s
  | .push b => Sys2Proof.Machine.execPush b s
  | .pop => Sys2Proof.Machine.execPop s
  | .peek k => Sys2Proof.Machine.execPeek k s
  | .count => Sys2Proof.Machine.execCount s

end Sys2Proof.Machine
end

