-- ==== Sys2Proof/Machine/Agents.lean ====
section
/-! DEFINITION. The two agents' steps (60_exceptions.md R202), each running the instruction its agent's state calls for,
the fetch of the head window (41_scanner.md R122), and where a table row's bits are placed so that the next step runs
them. -/

namespace Sys2Proof.Machine

/-- The head window `peek(0) .. peek(4)` (R122). -/
def State.window (s : State) : Except Fault Frame := do
  let b0 ← s.peekByte 0
  let b1 ← s.peekByte 1
  let b2 ← s.peekByte 2
  let b3 ← s.peekByte 3
  let b4 ← s.peekByte 4
  return { b0, b1, b2, b3, b4 }

/-- ACCEPT (R202): with `pst = P_IDLE` and a byte offered, PUSH it and enter the handler; else no byte is accepted. -/
def acceptStep (s : State) : Host.Outcome State Fault Refusal :=
  match s.pst, s.rx with
  | .idle, b :: _ => thenUpdate (exec (.push b) s) fun t => t.handlerEntry b (pushStatus s)
  | _, _ => hold s

/-- PRODUCER (R202): in `P_DIAG`, DIAG_E. -/
def producerStep (s : State) : Host.Outcome State Fault Refusal := exec .diagE s

/-- The `S_IDLE` step (R122): with five bytes queued, the instruction the head window stands for. -/
def scanStep (s : State) : Host.Outcome State Fault Refusal :=
  if Config.frameLen ≤ s.count then orFault s.window fun w => exec (decodeFrame w) s else hold s

/-- The `S_DROP` step (R128): POP, then the count of discards. -/
def discardStep (s : State) : Host.Outcome State Fault Refusal :=
  if s.drop = 0 then .fault .dropUnderflow else thenUpdate (exec .pop s) fun t => t.afterDiscard (popStatus s)

/-- CONSUMER (R120, R202): with `pst = P_IDLE`, the instruction of the consumer's state. Outside `S_IDLE` an operand of
it that its step does not use is taken from the latches or from `period` (log entry 6). -/
def consumerStep (s : State) : Host.Outcome State Fault Refusal :=
  match s.pst with
  | .diag => hold s
  | .idle =>
    match s.cst with
    | .idle => scanStep s
    | .out => if s.outv then exec (.outon s.fh s.fl s.fe) s else exec (.outoff s.fh s.fl s.fe) s
    | .drop => discardStep s
    | .udiag => exec .diagU s
    | .pg => exec (.setperiod s.fh s.fl s.fe) s
    | .tx => exec (.response s.period) s

/-- What the picked turn does (R202, R240). -/
def takeTurn (s : State) : Turn → Host.Outcome State Fault Refusal
  | .accept => acceptStep s
  | .producer => producerStep s
  | .consumer => consumerStep s
  | .reset kept => .next (s.resetBlock kept)

/-- The draw that lets one agent step, transmit ready and nothing offered. -/
def readyInput (t : Turn) : Input := { offer := none, txReady := true, turn := t }

/-- `s` with this draw before the others. -/
def State.withInput (s : State) (i : Input) : State := { s with inputs := i :: s.inputs }

/-- `s` with the five bytes of `f` as the oldest of the queue, and no fewer bytes queued than before. -/
def State.placeWindow (s : State) (f : Frame) : State :=
  let n := s.cfg.capacity
  { s with
    mem := ((((s.mem.write (s.tail % n) f.b0).write ((s.tail + 1) % n) f.b1).write ((s.tail + 2) % n) f.b2).write
      ((s.tail + 3) % n) f.b3).write ((s.tail + 4) % n) f.b4
    tail := s.tail % n
    count := max Config.frameLen s.count
    head := (s.tail + max Config.frameLen s.count) % n }

/-- `s` about to run the instruction of a code (log entry 17): a received frame leads the queue of an idle consumer; a
diagnostic byte is pending in its agent. A request has no bits, and a table word of 40 bits is read as received. -/
def State.placeCode (s : State) : Code → State
  | .received [b0, b1, b2, b3, b4] =>
    ({ s with pst := .idle, cst := .idle }.placeWindow { b0, b1, b2, b3, b4 }).withInput (readyInput .consumer)
  | .transmitted [b] =>
    if b = diagOverrun then ({ s with pst := .diag }).withInput (readyInput .producer)
    else if b = diagUnderrun then ({ s with pst := .idle, cst := .udiag }).withInput (readyInput .consumer)
    else s
  | _ => s

end Sys2Proof.Machine
end

