-- ==== Sys2Proof/Machine/Step.lean ====
section
/-! DEFINITION. The global step (60_exceptions.md R202), and where the host's test words are placed. -/

namespace Sys2Proof.Machine

/-- One step: take the environment's draw (R201), then the turn it picks (R202). -/
def step (s : State) : Host.Outcome State Fault Refusal := takeTurn s.sample s.nextInput.turn

/-- `s` with a table row's bits placed so that the next step runs the instruction they stand for (log entry 17). -/
def State.withFetchWord (s : State) (nbits w : Nat) : State :=
  match codeOfTableWord nbits w with
  | some c => s.placeCode c
  | none => s

end Sys2Proof.Machine
end

