-- ==== Sys2Proof/Safety.lean ====
section
/-! DEFINITION. What claims are stated in: the invariant of the block's states, which steps are enabled, runs over given
inputs, the spec's reference algorithm (41_scanner.md R139) and a sender's safe stream (70_reset_and_hazards.md R256). -/

namespace Sys2Proof

/-- A draw that does not assert the reset input (R240). -/
def Input.noReset (i : Input) : Bool :=
  match i.turn with
  | .reset _ => false
  | _ => true

end Sys2Proof

namespace Sys2Proof.Machine

/-! ## The invariant -/

/-- What holds at every step boundary of a run: the ranges of R20, the storage's shape (R23, R24) and canonical form, and
what each consumer state rests on (R31, R129, R170). -/
structure State.Inv (s : State) : Prop where
  /-- `N >= 1` (R6). -/
  legal : s.cfg.legal
  memWf : s.mem.wf
  /-- Only `mem[0..N-1]` exists (R24, R50). -/
  memInside : ∀ c ∈ s.mem, c.1 < s.cfg.capacity
  headIn : s.head < s.cfg.capacity
  tailIn : s.tail < s.cfg.capacity
  /-- `0 <= count <= N` (R23). -/
  countLe : s.count ≤ s.cfg.capacity
  /-- `head = (tail + count) mod N` (R24). -/
  headEq : s.head = (s.tail + s.count) % s.cfg.capacity
  dropLe : s.drop ≤ 5
  rsnLe : s.rsn ≤ 5
  /-- A recognised SetOutput frame is whole in the queue (R121, R125). -/
  outQueued : s.cst = .out → 5 ≤ s.count
  /-- What is to be discarded is in the queue (R129). -/
  dropQueued : s.cst = .drop → 1 ≤ s.drop ∧ s.drop ≤ s.count
  udiagQueued : s.cst = .udiag → s.drop ≤ s.count
  /-- What is being sent is the response for the period (R170, R175). -/
  sending : s.cst = .tx → s.rsn ≤ 4 ∧ s.rsp = buildResponse s.period

/-! ## Enabled steps -/

/-- ACCEPT is enabled (R202), with the step's draw taken. -/
abbrev State.acceptEnabled (s : State) : Prop := s.pst = .idle ∧ s.rx ≠ []

/-- PRODUCER is enabled (R202). -/
abbrev State.producerEnabled (s : State) : Prop := s.pst = .diag ∧ s.txReady = true

/-- CONSUMER is enabled (R120, R202). -/
abbrev State.consumerEnabled (s : State) : Prop :=
  s.pst = .idle ∧ (s.cst = .idle → 5 ≤ s.count) ∧ (s.cst = .tx ∨ s.cst = .udiag → s.txReady = true)

/-- The block is quiescent (R216). -/
abbrev State.quiescent (s : State) : Prop := s.pst = .idle ∧ s.cst = .idle ∧ s.count < 5

/-! ## Runs -/

/-- The run over exactly these draws of the environment. -/
def runInputs (s : State) (inputs : List Input) : Host.Outcome State Fault Refusal :=
  Sys2Proof.core.run inputs.length { s with inputs := inputs }

/-- `k` draws that let the consumer step, transmit ready and nothing offered. -/
def consumerTurns (k : Nat) : List Input := List.replicate k (readyInput .consumer)

/-- The bytes a list of draws offers, in arrival order. -/
def offeredBytes (inputs : List Input) : List Byte := inputs.flatMap fun i => i.offer.toList

/-- The instructions in order, with the answers of the RingBuffer's interface; none if one stops. -/
def runAnswers : List Instr → State → Option (List Answer × State)
  | [], s => some ([], s)
  | i :: is, s =>
    match exec i s with
    | .next t => (runAnswers is t).map fun r => (t.answer :: r.1, r.2)
    | _ => none

/-! ## Traces -/

/-- The events that are no arrival: what the block does to its outside (R204, R256). -/
def effects (trace : List Event) : List Event :=
  trace.filter fun
    | .rx _ _ => false
    | _ => true

/-- The bytes a trace's arrivals put into the RingBuffer (R60, R204). -/
def accepted (trace : List Event) : List Byte :=
  trace.filterMap fun
    | .rx b .ok => some b
    | _ => none

/-- No arrival of the trace overran (R141, R256). -/
def noOverrun (trace : List Event) : Bool :=
  trace.all fun
    | .rx _ .overrun => false
    | _ => true

/-- The five `TX` events of `RESPONSE p` (R133, R175). -/
def responseEvents (p : U16) : List Event := (buildResponse p).toList.map .tx

/-- The events of one SetPeriod frame, in order (R181). -/
def periodEvents (p : U16) : List Event := .pg p (dutyA p) (dutyB p) :: responseEvents p

/-! ## The reference algorithm (R139) -/

/-- `scanCycle()` on the queue `q`: its events and the queue it leaves. The first argument bounds the passes; each
removes a byte (R132), so the length of `q` is enough. -/
def scanCycle (c : Config) : Nat → List Byte → List Event × List Byte
  | 0, q => ([], q)
  | n + 1, q =>
    match q with
    | m :: cmd :: h :: l :: e :: _ =>
      if m ≠ Config.marker then scanCycle c n (q.drop 1)
      else if cmd = Config.cmdOutOn ∨ cmd = Config.cmdOutOff then
        let r := scanCycle c n (q.drop (outputDrop c))
        (.out (cmd == Config.cmdOutOn) :: r.1, r.2)
      else if cmd = Config.cmdSetPeriod then (periodEvents (decodePeriod h l e), q.drop 5)
      else scanCycle c n (q.drop 1)
    | _ => ([], q)

/-- `scanCycle` invoked repeatedly until its guard fails (R130, R140). -/
def pollLoop (c : Config) : Nat → List Byte → List Event × List Byte
  | 0, q => ([], q)
  | n + 1, q =>
    if q.length < 5 then ([], q)
    else
      let r := scanCycle c q.length q
      let t := pollLoop c n r.2
      (r.1 ++ t.1, t.2)

/-! ## A sender's safe stream (R256) -/

/-- The frames a safe stream is made of. -/
def safeItem (c : Config) : StreamItem → Bool
  | .setPeriod _ => true
  | .setPeriodStuffed _ => true
  | .outOn => true
  | .outOff => true
  | .frame cmd h l e =>
    (cmd == Config.cmdOutOn || cmd == Config.cmdOutOff)
      && (c.policy == .uniform || (h != Config.marker && l != Config.marker && e != Config.marker))
  | .bytes _ => false
  | .response _ => false

/-- What the spec says a frame of a safe stream does. -/
def itemEffect : StreamItem → List Event
  | .setPeriod p => periodEvents p
  | .setPeriodStuffed p => periodEvents p
  | .outOn => [.out true]
  | .outOff => [.out false]
  | .frame cmd _ _ _ => [.out (cmd == Config.cmdOutOn)]
  | .bytes _ => []
  | .response _ => []

/-- Bytes 1 to 4 of a SetOutput frame under FAITHFUL, which only its marker is removed of (R125, R134); nothing of any
other frame. -/
def itemLeftover (c : Config) (item : StreamItem) : List Byte :=
  match item, c.policy with
  | .outOn, .faithful => item.expand.drop 1
  | .outOff, .faithful => item.expand.drop 1
  | .frame _ _ _ _, .faithful => item.expand.drop 1
  | _, _ => []

/-- What a safe stream leaves queued once all of it is scanned (R256): its last frame's left-behind bytes. -/
def streamLeftover (c : Config) (items : List StreamItem) : List Byte :=
  match items.getLast? with
  | some item => itemLeftover c item
  | none => []

/-! ## Two layouts of one queue (R25, R110) -/

/-- The two states differ at most in where the queue lies in storage and in the capacity. -/
abbrev State.sameQueue (s t : State) : Prop :=
  s.q = t.q ∧
    { s with mem := t.mem, head := t.head, tail := t.tail, cfg := { s.cfg with capacity := t.cfg.capacity } } = t

end Sys2Proof.Machine
end

