-- ==== Sys2Proof/Certificates/Slice0/Obligations.lean ====
section
/-! DEFINITION. The statements for the provers, in the order of OBLIGATIONS.json. A statement about every state holds in
states no run reaches; where it needs `State.Inv`, that the invariant holds at reset and is kept is stated too. -/

section
open Sys2Proof Sys2Proof.Machine

/-! ## Encoding -/

/-- R71, R73, R76, R78, R79, R84: no operand is dropped by the encoding, in any family. -/
def Obligations.DecodeAfterEncode : Prop := ∀ i : Instr, i.wellFormed = true → decode (encode i) = .ok i

/-- R76 read over whole windows: each stands for exactly one instruction, which has its bytes. -/
def Obligations.EveryWindowStandsForOneInstruction : Prop :=
  ∀ f : Frame, (decodeFrame f).wellFormed = true ∧ encode (decodeFrame f) = .received f.toList ∧
    ∀ i : Instr, i.wellFormed = true → encode i = .received f.toList → i = decodeFrame f

/-- R76: the classes, marker tested first; the payload never changes the class. -/
def Obligations.ClassOfAHeadWindow : Prop :=
  (∀ fm fc, fm ≠ 0xFF#8 → classify fm fc = .desync) ∧
  classify 0xFF#8 0x01#8 = .setperiod ∧ classify 0xFF#8 0x02#8 = .outon ∧ classify 0xFF#8 0x03#8 = .outoff ∧
  (∀ fc, fc ≠ 0x01#8 → fc ≠ 0x02#8 → fc ≠ 0x03#8 → classify 0xFF#8 fc = .invalid) ∧
  ∀ fm fc fh fl fe, decodeFrame { b0 := fm, b1 := fc, b2 := fh, b3 := fl, b4 := fe } =
    match classify fm fc with
    | .desync => .desync fm fc fh fl fe
    | .setperiod => .setperiod fh fl fe
    | .outon => .outon fh fl fe
    | .outoff => .outoff fh fl fe
    | .invalid => .invalid fc fh fl fe

/-- A few words written out from R71, R73, R78 and R79 (95_test_vectors.md V-C, V-E); 0x45 and 0x55 are PRESUMED
(log entry 10). -/
def Obligations.SpecWordsDecode : Prop :=
  decode (.received [0xFF#8, 0x01#8, 0x00#8, 0x64#8, 0x00#8]) = .ok (.setperiod 0x00#8 0x64#8 0x00#8) ∧
  decode (.received [0xFF#8, 0x02#8, 0x00#8, 0x00#8, 0x00#8]) = .ok (.outon 0x00#8 0x00#8 0x00#8) ∧
  decode (.received [0xFF#8, 0x03#8, 0x11#8, 0x22#8, 0x33#8]) = .ok (.outoff 0x11#8 0x22#8 0x33#8) ∧
  decode (.received [0xFF#8, 0x04#8, 0x00#8, 0x00#8, 0x00#8]) = .ok (.invalid 0x04#8 0x00#8 0x00#8 0x00#8) ∧
  decode (.received [0x10#8, 0xFF#8, 0x01#8, 0x00#8, 0x64#8]) = .ok (.desync 0x10#8 0xFF#8 0x01#8 0x00#8 0x64#8) ∧
  decode (.transmitted [0xFF#8, 0x02#8, 0xFF#8, 0x64#8, 0x01#8]) = .ok (.response 0xFF64#16) ∧
  decode (.transmitted [0x45#8]) = .ok .diagE ∧ decode (.transmitted [0x55#8]) = .ok .diagU

/-- R78: five transmitted bytes are a response frame or are rejected. -/
def Obligations.TransmittedFramesAreResponses : Prop :=
  ∀ (f : Frame) (i : Instr), decode (.transmitted f.toList) = .ok i → ∃ p, i = .response p ∧ f = buildResponse p

/-! ## FrameDecoder and ResponseEncoder -/

/-- R150, R151 by value: each byte is 255 where its mask bit is set and as received elsewhere, high byte first. -/
def Obligations.DecodedPeriodValue : Prop :=
  ∀ fh fl fe : Byte, (decodePeriod fh fl fe).toNat =
    256 * (if fe.getLsbD 0 = true then 255 else fh.toNat) + (if fe.getLsbD 1 = true then 255 else fl.toNat)

/-- R154. -/
def Obligations.MaskBitsSevenToTwoIgnored : Prop :=
  ∀ fh fl fe : Byte, decodePeriod fh fl fe = decodePeriod fh fl (fe &&& 0x03#8)

/-- R153: a raw 0xFF and any placeholder with its bit set decode alike, and no other byte survives a set bit; R83: both
spellings of SETPERIOD decode to their period. -/
def Obligations.RawAndEscapedMarkersDecodeAlike : Prop :=
  restore 0xFF#8 false = 0xFF#8 ∧ restore 0xFF#8 true = 0xFF#8 ∧ (∀ b, restore b true = 0xFF#8) ∧
  (∀ b, b ≠ 0xFF#8 → restore b true ≠ b) ∧
  (∀ b l e : Byte, decodePeriod b l (e ||| 0x01#8) = decodePeriod 0xFF#8 l (e &&& 0xFE#8)) ∧
  (∀ h b e : Byte, decodePeriod h b (e ||| 0x02#8) = decodePeriod h 0xFF#8 (e &&& 0xFD#8)) ∧
  ∀ p, decodePeriod (upperByte p) (lowerByte p) (esc p) = p ∧
    decodePeriod (stuff (upperByte p)) (stuff (lowerByte p)) (esc p) = p

/-- R173 by value, with the mask never 0xFF and its bits 7 to 2 zero. -/
def Obligations.ResponseFrameBytes : Prop :=
  ∀ p : U16,
    (buildResponse p).toList =
      [0xFF#8, 0x02#8, BitVec.ofNat 8 (p.toNat / 256), BitVec.ofNat 8 (p.toNat % 256),
        BitVec.ofNat 8 ((if p.toNat / 256 = 255 then 1 else 0) + (if p.toNat % 256 = 255 then 2 else 0))] ∧
    (buildResponse p).b4 ≠ 0xFF#8 ∧ ∀ k, 2 ≤ k → (buildResponse p).b4.getLsbD k = false

/-- R157: the response's payload decodes to the period, and the frame itself reads as OUTON, not SETPERIOD (R252). -/
def Obligations.ResponsePayloadRoundTrip : Prop :=
  ∀ p : U16,
    decodePeriod (buildResponse p).b2 (buildResponse p).b3 (buildResponse p).b4 = p ∧
    decodeFrame (buildResponse p) = .outon (buildResponse p).b2 (buildResponse p).b3 (buildResponse p).b4

/-- R171. -/
def Obligations.DutyIsTruncatedDivision : Prop :=
  ∀ p : U16, (dutyA p).toNat = p.toNat / 2 ∧ (dutyB p).toNat = p.toNat / 4 ∧ dutyA p = p >>> 1 ∧ dutyB p = p >>> 2 ∧
    dutyA p ≤ p ∧ dutyB p ≤ p

/-! ## The RingBuffer -/

/-- R100. -/
def Obligations.PushStoresOrOverruns : Prop :=
  ∀ (s : State) (b : Byte),
    (s.count < s.cfg.capacity → s.head < s.cfg.capacity →
      exec (.push b) s = .next { s with
        mem := s.mem.write s.head b, head := (s.head + 1) % s.cfg.capacity, count := s.count + 1,
        answer := .pushed .ok }) ∧
    (s.cfg.capacity ≤ s.count → exec (.push b) s = .next { s with answer := .pushed .overrun })

/-- R101. -/
def Obligations.PopRemovesOldestOrAnswersSentinel : Prop :=
  ∀ s : State,
    (0 < s.count → s.tail < s.cfg.capacity →
      exec .pop s = .next { s with
        tail := (s.tail + 1) % s.cfg.capacity, count := s.count - 1, answer := .popped (s.mem.read s.tail) .ok }) ∧
    (s.count = 0 → s.cfg.underrunDiag = .signal →
      exec .pop s = .next { s with answer := .popped 0x00#8 .underrun }) ∧
    (s.count = 0 → s.cfg.underrunDiag = .silent → exec .pop s = .next { s with answer := .popped 0x00#8 .ok })

/-- R102, R109: every offset answers, the `i`-th oldest byte or the sentinel, and nothing else changes. -/
def Obligations.PeekAnswersQueueOrSentinel : Prop :=
  ∀ (s : State) (i : Nat), 0 < s.cfg.capacity →
    (∀ h : i < s.q.length, exec (.peek i) s = .next { s with answer := .peeked s.q[i] }) ∧
    (s.count ≤ i → exec (.peek i) s = .next { s with answer := .peeked 0x00#8 }) ∧ s.q.length = s.count

/-- R103. -/
def Obligations.CountAnswersLiveElements : Prop :=
  ∀ s : State, exec .count s = .next { s with answer := .counted s.count } ∧ s.q.length = s.count

/-- R100 and R101 in terms of `q` (R25). -/
def Obligations.QueueUnderPushAndPop : Prop :=
  ∀ (s : State) (b : Byte), s.Inv →
    (s.count < s.cfg.capacity → ∃ t, exec (.push b) s = .next t ∧ t.q = s.q ++ [b]) ∧
    (s.count = s.cfg.capacity → ∃ t, exec (.push b) s = .next t ∧ t.q = s.q) ∧
    ∃ t, exec .pop s = .next t ∧ t.q = s.q.drop 1

/-- R104, R105. -/
def Obligations.PushThenPopReturnsOldest : Prop :=
  ∀ (s : State) (b : Byte), s.Inv → s.count < s.cfg.capacity →
    ∃ t u, exec (.push b) s = .next t ∧ t.answer = .pushed .ok ∧ exec .pop t = .next u ∧ u.count = s.count ∧
      (s.q = [] → u.answer = .popped b .ok ∧ u.q = []) ∧
      ∀ e rest, s.q = e :: rest → u.answer = .popped e .ok ∧ u.q = rest ++ [b]

/-- R108: from an empty queue, `k + 1 <= N` pushes all answer OK and as many pops return the bytes in order. -/
def Obligations.PoppedInPushedOrder : Prop :=
  ∀ (s : State) (bs : List Byte), s.Inv → s.count = 0 → bs.length ≤ s.cfg.capacity →
    ∃ t, runAnswers (bs.map .push ++ List.replicate bs.length .pop) s =
        some (List.replicate bs.length (.pushed .ok) ++ bs.map (.popped · .ok), t) ∧ t.count = 0

/-- R58: a push writes no storage byte that is live, and every live byte keeps its value and its offset. -/
def Obligations.PushLeavesLiveBytes : Prop :=
  ∀ (s t : State) (b : Byte), s.Inv → exec (.push b) s = .next t →
    (∀ k, k < s.count → t.q[k]? = s.q[k]?) ∧
    (s.count < s.cfg.capacity → ∀ k, k < s.count → (s.tail + k) % s.cfg.capacity ≠ s.head) ∧
    ∀ k, k < s.count →
      t.mem.read ((s.tail + k) % s.cfg.capacity) = s.mem.read ((s.tail + k) % s.cfg.capacity)

/-- R62: the head window a scan pass reads is the same before and after a push. -/
def Obligations.PushLeavesHeadWindow : Prop :=
  ∀ (s t : State) (b : Byte), s.Inv → 5 ≤ s.count → exec (.push b) s = .next t → t.window = s.window

/-- The frame of PUSH, POP, PEEK and COUNT: the registers each may write, and every storage byte but the one PUSH stores
at `mem[head]`, read back one by one. A push that overruns stores nothing. -/
def Obligations.RingOperationsFrame : Prop :=
  (∀ (s t : State) (b : Byte), exec (.push b) s = .next t →
    { t with mem := s.mem, head := s.head, count := s.count, answer := s.answer } = s ∧
    (∀ a, a ≠ s.head → t.mem.read a = s.mem.read a) ∧
    (s.cfg.capacity ≤ s.count → t.head = s.head ∧ t.count = s.count ∧ ∀ a, t.mem.read a = s.mem.read a)) ∧
  (∀ s t : State, exec .pop s = .next t →
    { t with tail := s.tail, count := s.count, answer := s.answer } = s ∧ ∀ a, t.mem.read a = s.mem.read a) ∧
  (∀ (s t : State) (i : Nat), exec (.peek i) s = .next t →
    { t with answer := s.answer } = s ∧ ∀ a, t.mem.read a = s.mem.read a) ∧
  ∀ s t : State, exec .count s = .next t →
    { t with answer := s.answer } = s ∧ ∀ a, t.mem.read a = s.mem.read a

/-! ## Received frames -/

/-- R123, R127: the scan pass that fails to match sets up one discard, and two consumer steps remove exactly one byte
with no event. -/
def Obligations.FailedMatchDiscardsOneByte : Prop :=
  (∀ (s : State) (m c h l e : Byte), s.pst = .idle → s.cst = .idle → 5 ≤ s.count →
    exec (.desync m c h l e) s = .next { s with
      fm := m, fc := c, fh := h, fl := l, fe := e, drop := 1, dnext := .idle, cst := .drop } ∧
    exec (.invalid c h l e) s = .next { s with
      fm := 0xFF#8, fc := c, fh := h, fl := l, fe := e, drop := 1, dnext := .idle, cst := .drop }) ∧
  ∀ s : State, s.Inv → s.pst = .idle → s.cst = .idle →
    ∀ m c h l e rest, s.q = m :: c :: h :: l :: e :: rest →
      classify m c = .desync ∨ classify m c = .invalid →
      ∃ t, runInputs s (consumerTurns 2) = .next t ∧ t.cst = .idle ∧ t.trace = s.trace ∧
        t.q = c :: h :: l :: e :: rest

/-- R124: the recognition of OUTON and OUTOFF, whatever their payload. -/
def Obligations.SetOutputRecognition : Prop :=
  ∀ (s : State) (h l e : Byte), s.pst = .idle → s.cst = .idle → 5 ≤ s.count →
    exec (.outon h l e) s = .next { s with
      fm := 0xFF#8, fc := 0x02#8, fh := h, fl := l, fe := e, outv := true, cst := .out } ∧
    exec (.outoff h l e) s = .next { s with
      fm := 0xFF#8, fc := 0x03#8, fh := h, fl := l, fe := e, outv := false, cst := .out }

/-- R125: the `S_OUT` step calls before any byte is removed, then consumes by policy: one byte, or the whole frame. -/
def Obligations.SetOutputCall : Prop :=
  (∀ (s : State) (h l e : Byte), s.pst = .idle → s.cst = .out →
    exec (.outon h l e) s = .next { s with
      trace := s.trace ++ [.out true], drop := if s.cfg.policy = .faithful then 1 else 5, dnext := .idle,
      cst := .drop } ∧
    exec (.outoff h l e) s = .next { s with
      trace := s.trace ++ [.out false], drop := if s.cfg.policy = .faithful then 1 else 5, dnext := .idle,
      cst := .drop }) ∧
  ∀ s : State, s.Inv → s.pst = .idle → s.cst = .out →
    (s.cfg.policy = .faithful → ∃ t, runInputs s (consumerTurns 2) = .next t ∧ t.cst = .idle ∧ t.q = s.q.drop 1 ∧
      t.trace = s.trace ++ [.out s.outv]) ∧
    (s.cfg.policy = .uniform → ∃ t, runInputs s (consumerTurns 6) = .next t ∧ t.cst = .idle ∧ t.q = s.q.drop 5 ∧
      t.trace = s.trace ++ [.out s.outv])

/-- R126: the recognition of SETPERIOD, and the five discards that come before the pulse generator's call. -/
def Obligations.SetPeriodRecognition : Prop :=
  (∀ (s : State) (h l e : Byte), s.pst = .idle → s.cst = .idle → 5 ≤ s.count →
    exec (.setperiod h l e) s = .next { s with
      fm := 0xFF#8, fc := 0x01#8, fh := h, fl := l, fe := e, period := decodePeriod h l e, drop := 5, dnext := .pg,
      cst := .drop }) ∧
  ∀ s : State, s.Inv → s.pst = .idle → s.cst = .drop → s.drop = 5 → s.dnext = .pg →
    ∃ t, runInputs s (consumerTurns 5) = .next t ∧ t.cst = .pg ∧ t.q = s.q.drop 5 ∧ t.period = s.period ∧
      t.trace = s.trace

/-- R170: the `S_PG` step, for every period and whatever payload the instruction names. -/
def Obligations.SetPeriodCall : Prop :=
  ∀ (s : State) (h l e : Byte), s.pst = .idle → s.cst = .pg →
    exec (.setperiod h l e) s = .next { s with
      trace := s.trace ++ [.pg s.period (s.period / 2#16) (s.period / 4#16)], rsp := buildResponse s.period, rsn := 0,
      cst := .tx }

/-- The model's own convention (log entries 5, 6; resting on R121, R203, R255): a received frame has no step when the
guard fails, while the arrival handler runs, or in a consumer state not its own. -/
def Obligations.FramesWaitForTheirState : Prop :=
  ∀ (s : State) (m c h l e : Byte), s.pst = .diag ∨ s.cst ≠ .idle ∨ s.count < 5 →
    exec (.desync m c h l e) s = .next s ∧ exec (.invalid c h l e) s = .next s ∧
    (s.pst = .diag ∨ s.cst ≠ .out → exec (.outon h l e) s = .next s ∧ exec (.outoff h l e) s = .next s) ∧
    (s.pst = .diag ∨ s.cst ≠ .pg → exec (.setperiod h l e) s = .next s)

/-- The frame of the received frames: no storage byte, no RingBuffer register, nothing of the producer, and of the
consumer only the registers R122 to R126 and R170 name. -/
def Obligations.ReceivedFramesFrame : Prop :=
  ∀ (s t : State) (m c h l e : Byte),
    (exec (.desync m c h l e) s = .next t ∨ exec (.invalid c h l e) s = .next t →
      { t with
        fm := s.fm, fc := s.fc, fh := s.fh, fl := s.fl, fe := s.fe, drop := s.drop, dnext := s.dnext,
        cst := s.cst } = s ∧ ∀ a, t.mem.read a = s.mem.read a) ∧
    (exec (.outon h l e) s = .next t ∨ exec (.outoff h l e) s = .next t →
      { t with
        fm := s.fm, fc := s.fc, fh := s.fh, fl := s.fl, fe := s.fe, drop := s.drop, dnext := s.dnext,
        cst := s.cst, outv := s.outv, trace := s.trace } = s ∧ ∀ a, t.mem.read a = s.mem.read a) ∧
    (exec (.setperiod h l e) s = .next t →
      { t with
        fm := s.fm, fc := s.fc, fh := s.fh, fl := s.fl, fe := s.fe, drop := s.drop, dnext := s.dnext,
        cst := s.cst, period := s.period, rsp := s.rsp, rsn := s.rsn, trace := s.trace } = s ∧
      ∀ a, t.mem.read a = s.mem.read a)

/-! ## Transmissions -/

/-- R175: one byte of `rsp` a step, the last one ending the poll cycle, and five steps sending all five in order. The
first clause, that RESPONSE run alone in `S_PG` builds its frame (R173) for any period and makes no call, is the model's
choice (log entry 6); the `S_PG` step itself is SETPERIOD's. -/
def Obligations.ResponseSentByteByByte : Prop :=
  (∀ (s : State) (p : U16), s.pst = .idle → s.cst = .pg →
    exec (.response p) s = .next { s with rsp := buildResponse p, rsn := 0, cst := .tx }) ∧
  (∀ (s : State) (p : U16) (b : Byte), s.pst = .idle → s.cst = .tx → s.txReady = true → s.rsp.toList[s.rsn]? = some b →
    exec (.response p) s = .next { s with
      trace := s.trace ++ [.tx b], rsn := s.rsn + 1, cst := if s.rsn = 4 then .idle else .tx }) ∧
  (∀ (s : State) (p : U16), s.cst = .tx → s.rsn ≤ 4 → s.txReady = false → exec (.response p) s = .next s) ∧
  ∀ s : State, s.pst = .idle → s.cst = .tx → s.rsn = 0 →
    ∃ t, runInputs s (consumerTurns 5) = .next t ∧ t.trace = s.trace ++ s.rsp.toList.map .tx ∧ t.rsn = 5 ∧ t.cst = .idle

/-- R177: the 'E' (the number 0x45 is PRESUMED, log entry 10) and the handler's return. -/
def Obligations.OverrunDiagnosticSent : Prop :=
  ∀ s : State, s.pst = .diag → s.txReady = true →
    exec .diagE s = .next { s with trace := s.trace ++ [.tx 0x45#8], pst := .idle }

/-- R178: the 'U' (the number 0x55 is PRESUMED, log entry 10) and what the consumer goes on to. -/
def Obligations.UnderrunDiagnosticSent : Prop :=
  ∀ s : State, s.pst = .idle → s.cst = .udiag → s.txReady = true →
    exec .diagU s = .next { s with
      trace := s.trace ++ [.tx 0x55#8],
      cst := if s.drop = 0 then (match s.dnext with | .idle => .idle | .pg => .pg) else .drop }

/-- R176: without transmit ready every transmission waits, nothing changed. -/
def Obligations.TransmissionsWaitForReady : Prop :=
  ∀ s : State, s.txReady = false →
    exec .diagE s = .next s ∧ exec .diagU s = .next s ∧
    ∀ p, s.cst = .tx → s.rsn ≤ 4 → exec (.response p) s = .next s

/-- The frame of RESPONSE, DIAG_E and DIAG_U. -/
def Obligations.TransmissionsFrame : Prop :=
  ∀ (s t : State) (p : U16),
    (exec (.response p) s = .next t →
      { t with rsp := s.rsp, rsn := s.rsn, cst := s.cst, trace := s.trace } = s ∧
      (s.cst = .tx → t.rsp = s.rsp) ∧ ∀ a, t.mem.read a = s.mem.read a) ∧
    (exec .diagE s = .next t →
      { t with pst := s.pst, trace := s.trace } = s ∧ ∀ a, t.mem.read a = s.mem.read a) ∧
    (exec .diagU s = .next t →
      { t with cst := s.cst, trace := s.trace } = s ∧ ∀ a, t.mem.read a = s.mem.read a)

/-! ## The global step -/

/-- R120, R202: a step is `exec` of the instruction its turn's agent has, at the state with the draw taken, with the
RX event and the discard count that R202 and R128 put around PUSH and POP. In `S_IDLE` the instruction is the one the
decoder reads from the head window's bytes. -/
def Obligations.StepRunsTheInstruction : Prop :=
  ∀ s : State,
    (s.nextInput.turn = .consumer → s.pst = .idle →
      (s.cst = .idle → 5 ≤ s.count → ∀ w i, s.sample.window = .ok w → decode (.received w.toList) = .ok i →
        step s = exec i s.sample) ∧
      (s.cst = .out → ∀ h l e,
        step s = exec (if s.outv = true then .outon h l e else .outoff h l e) s.sample) ∧
      (s.cst = .drop → s.drop ≠ 0 →
        step s = thenUpdate (exec .pop s.sample) fun t => t.afterDiscard (popStatus s.sample)) ∧
      (s.cst = .udiag → step s = exec .diagU s.sample) ∧
      (s.cst = .pg → ∀ h l e, step s = exec (.setperiod h l e) s.sample) ∧
      (s.cst = .tx → ∀ p, step s = exec (.response p) s.sample)) ∧
    (s.nextInput.turn = .producer → step s = exec .diagE s.sample) ∧
    (s.nextInput.turn = .accept → s.pst = .idle → ∀ b rest, s.sample.rx = b :: rest →
      step s = thenUpdate (exec (.push b) s.sample) fun t => t.handlerEntry b (pushStatus s.sample))

/-- R202's ACCEPT: the push, the RX event with its status, and `P_DIAG` exactly on an overrun. -/
def Obligations.AcceptedByteStep : Prop :=
  ∀ (s : State) (b : Byte) (rest : List Byte), s.nextInput.turn = .accept → s.pst = .idle → s.sample.rx = b :: rest →
    (s.count < s.cfg.capacity → s.head < s.cfg.capacity →
      step s = .next { s.sample with
        mem := s.mem.write s.head b, head := (s.head + 1) % s.cfg.capacity, count := s.count + 1,
        answer := .pushed .ok, trace := s.trace ++ [.rx b .ok], rx := rest, pst := .idle }) ∧
    (s.cfg.capacity ≤ s.count →
      step s = .next { s.sample with
        answer := .pushed .overrun, trace := s.trace ++ [.rx b .overrun], rx := rest, pst := .diag })

/-- R210: accepting a byte changes nothing of the consumer; of the block it writes the RingBuffer, through the push, and
`pst`. The rest of the listed fields are the trace, the interface's answer and the environment's. -/
def Obligations.ArrivalLeavesConsumer : Prop :=
  ∀ s t : State, s.nextInput.turn = .accept → step s = .next t →
    { t with
      mem := s.mem, head := s.head, count := s.count, pst := s.pst, answer := s.answer, trace := s.trace, rx := s.rx,
      txReady := s.txReady, inputs := s.inputs, tick := s.tick } = s ∧
    ∀ a, a ≠ s.head → t.mem.read a = s.mem.read a

/-- R203: while the handler runs nothing steps but the producer with transmit ready, and offered bytes stay offered. -/
def Obligations.HandlerRunsToCompletion : Prop :=
  ∀ s : State, s.pst = .diag → s.nextInput.noReset = true →
    (s.nextInput.turn = .producer → s.nextInput.txReady = false) → step s = .next s.sample

/-- R211, with R177: the handler ends in `P_IDLE`, at once after a push that succeeds and with the 'E' after one that
does not, and the consumer has exactly the state it had; it never nests. The number 0x45 is PRESUMED (log entry 10). -/
def Obligations.HandlerReturnsToConsumer : Prop :=
  ∀ s t : State,
    (s.nextInput.turn = .producer → s.pst = .diag → s.nextInput.txReady = true →
      step s = .next { s.sample with trace := s.trace ++ [.tx 0x45#8], pst := .idle }) ∧
    (s.nextInput.turn = .accept → s.pst = .idle → s.count < s.cfg.capacity → step s = .next t → t.pst = .idle) ∧
    (s.nextInput.turn = .accept → s.pst = .diag → step s = .next s.sample)

/-- R128, with R101's two variants of the empty pop. Under the invariant, where no pop underruns (R129), one byte goes
and the last discard leads to `dnext`. In any state, the step's whole next state: on a queue with a byte; on an empty one
under SIGNAL, where it goes to `S_UDIAG`; on an empty one under SILENT, where it goes on by `drop` and `dnext` (R178's
corner case). The interface's answer is a field of the model's own (log entry 7). -/
def Obligations.DiscardStep : Prop :=
  (∀ s : State, s.Inv → s.nextInput.turn = .consumer → s.pst = .idle → s.cst = .drop →
    ∃ t, step s = .next t ∧ t.q = s.q.drop 1 ∧ t.count + 1 = s.count ∧ t.drop + 1 = s.drop ∧ t.trace = s.trace ∧
      (1 < s.drop → t.cst = .drop) ∧ (s.drop = 1 → s.dnext = .idle → t.cst = .idle) ∧
      (s.drop = 1 → s.dnext = .pg → t.cst = .pg)) ∧
  ∀ s : State, s.nextInput.turn = .consumer → s.pst = .idle → s.cst = .drop → 0 < s.drop →
    let next : CState := if s.drop = 1 then (match s.dnext with | .idle => .idle | .pg => .pg) else .drop
    (0 < s.count → s.tail < s.cfg.capacity →
      step s = .next { s.sample with
        tail := (s.tail + 1) % s.cfg.capacity, count := s.count - 1, answer := .popped (s.mem.read s.tail) .ok,
        drop := s.drop - 1, cst := next }) ∧
    (s.count = 0 → s.cfg.underrunDiag = .signal →
      step s = .next { s.sample with answer := .popped 0x00#8 .underrun, drop := s.drop - 1, cst := .udiag }) ∧
    (s.count = 0 → s.cfg.underrunDiag = .silent →
      step s = .next { s.sample with answer := .popped 0x00#8 .ok, drop := s.drop - 1, cst := next })

/-- R138: when a consumer turn changes nothing but the draw taken. -/
def Obligations.ConsumerHoldsExactlyWhen : Prop :=
  ∀ s : State, s.Inv → s.nextInput.turn = .consumer →
    (step s = .next s.sample ↔
      s.pst = .diag ∨ (s.cst = .idle ∧ s.count < 5) ∨
        ((s.cst = .tx ∨ s.cst = .udiag) ∧ s.nextInput.txReady = false))

/-- The model's own convention (log entry 5; resting on R12, R202, R216): a pick that is not enabled takes the draw and
changes nothing else. -/
def Obligations.DisabledTurnsHold : Prop :=
  ∀ s : State, s.Inv →
    (s.nextInput.turn = .accept → ¬ s.sample.acceptEnabled → step s = .next s.sample) ∧
    (s.nextInput.turn = .producer → ¬ s.sample.producerEnabled → step s = .next s.sample) ∧
    (s.nextInput.turn = .consumer → ¬ s.sample.consumerEnabled → step s = .next s.sample)

/-- R204 with R172, R170, R171, R176, R177: a step appends at most one event, and each kind of event comes from its own
step: RX from an accept turn; OUT from `S_OUT`; PG from `S_PG`, with the duties of the period; TX only with transmit
ready. The numbers 0x45 and 0x55 are PRESUMED (log entry 10). -/
def Obligations.EventsComeFromTheirSteps : Prop :=
  ∀ s t : State, step s = .next t →
    t.trace = s.trace ∨ ∃ ev, t.trace = s.trace ++ [ev] ∧
      match ev with
      | .rx b st => s.nextInput.turn = .accept ∧ s.pst = .idle ∧ s.sample.rx.head? = some b ∧
          (st = .overrun ↔ s.cfg.capacity ≤ s.count)
      | .out v => s.nextInput.turn = .consumer ∧ s.pst = .idle ∧ s.cst = .out ∧ v = s.outv
      | .pg p a b => s.nextInput.turn = .consumer ∧ s.pst = .idle ∧ s.cst = .pg ∧ p = s.period ∧ a = p / 2#16 ∧
          b = p / 4#16
      | .tx b => s.nextInput.txReady = true ∧
          ((s.nextInput.turn = .producer ∧ s.pst = .diag ∧ b = 0x45#8) ∨
            (s.nextInput.turn = .consumer ∧ s.pst = .idle ∧
              ((s.cst = .tx ∧ s.rsp.toList[s.rsn]? = some b) ∨ (s.cst = .udiag ∧ b = 0x55#8))))

/-- R23, R61: `count` grows only in an accept turn and shrinks only in a consumer turn, by one (the reset input apart). -/
def Obligations.CountChangesByOne : Prop :=
  ∀ s t : State, step s = .next t → s.nextInput.noReset = true →
    t.count = s.count ∨ (s.nextInput.turn = .accept ∧ t.count = s.count + 1) ∨
      (s.nextInput.turn = .consumer ∧ s.cst = .drop ∧ t.count + 1 = s.count)

/-- R60, R137: a step appends the accepted byte, removes the oldest one, or leaves the queue, and changes no other byte
of it (the reset input apart). -/
def Obligations.QueueChangesAtItsEnds : Prop :=
  ∀ s t : State, s.Inv → step s = .next t → s.nextInput.noReset = true →
    t.q = s.q ∨
    (s.nextInput.turn = .accept ∧ ∃ b, t.trace = s.trace ++ [.rx b .ok] ∧ t.q = s.q ++ [b]) ∨
    (s.nextInput.turn = .consumer ∧ s.cst = .drop ∧ ∃ b, s.q = b :: t.q)

/-- R27: no step and no instruction changes a parameter. -/
def Obligations.ParametersNeverChange : Prop :=
  (∀ s t : State, step s = .next t → t.cfg = s.cfg) ∧
    ∀ (i : Instr) (s t : State), exec i s = .next t → t.cfg = s.cfg

/-! ## Reset -/

/-- R35, the values the spec gives, under any parameters, and "this hardware" of R6; no call is made at reset. -/
def Obligations.ResetValues : Prop :=
  ∀ c : Config,
    (State.resetWith c).count = 0 ∧ (State.resetWith c).head = 0 ∧ (State.resetWith c).tail = 0 ∧
    (State.resetWith c).pst = .idle ∧ (State.resetWith c).cst = .idle ∧ (State.resetWith c).drop = 0 ∧
    (State.resetWith c).rsn = 0 ∧ (State.resetWith c).dnext = .idle ∧ (State.resetWith c).q = [] ∧
    (State.resetWith c).trace = [] ∧
    State.reset = State.resetWith { capacity := 50, policy := .faithful, underrunDiag := .signal }

/-- R240: the reset input abandons whatever was in flight, makes no call, emits no byte and accepts none. -/
def Obligations.ResetInputAbandonsWork : Prop :=
  ∀ (s : State) (kept : List Byte), s.nextInput.turn = .reset kept →
    ∃ t, step s = .next t ∧ t.count = 0 ∧ t.head = 0 ∧ t.tail = 0 ∧ t.pst = .idle ∧ t.cst = .idle ∧ t.drop = 0 ∧
      t.rsn = 0 ∧ t.dnext = .idle ∧ t.q = [] ∧ t.trace = s.trace ∧ t.cfg = s.cfg

/-! ## Invariants and whole-machine rules -/

/-- The invariant holds at reset, for every legal configuration. -/
def Obligations.ResetMeetsInvariant : Prop := ∀ c : Config, c.legal → (State.resetWith c).Inv

/-- R23, R24 and the ranges of R20: every step keeps the invariant, whatever the environment draws. -/
def Obligations.StepKeepsInvariant : Prop := ∀ s t : State, s.Inv → step s = .next t → t.Inv

/-- R206, R216: from a state of the invariant no step stops: no fault, no refusal. -/
def Obligations.StepNeverStops : Prop := ∀ s : State, s.Inv → ∃ t, step s = .next t

/-- R129: no step enters `S_UDIAG` from a state of the invariant outside it, and a discard always finds a byte; so both
hold over every run from reset, whatever the environment does. -/
def Obligations.CoreNeverUnderruns : Prop :=
  (∀ s t : State, s.Inv → s.cst ≠ .udiag → step s = .next t → t.cst ≠ .udiag ∧ (t.cst = .drop → 0 < t.count)) ∧
  ∀ (c : Config) (inputs : List Input), c.legal →
    (State.resetWith c).Inv ∧ (State.resetWith c).cst ≠ .udiag ∧
    ∃ t, runInputs (State.resetWith c) inputs = .next t ∧ t.cst ≠ .udiag ∧ (t.cst = .drop → 0 < t.count)

/-- R9: with `N < 5` the scanner never runs: the consumer stays idle, and no effect but an 'E' (0x45,
PRESUMED, log entry 10) appears. -/
def Obligations.NoDispatchBelowFrameLength : Prop :=
  ∀ (c : Config) (inputs : List Input), c.legal → c.capacity < 5 →
    ∃ t, runInputs (State.resetWith c) inputs = .next t ∧ t.cst = .idle ∧
      ∀ ev ∈ effects t.trace, ev = .tx 0x45#8

/-- R60: over every run, the queue is what is left of the bytes already queued and those accepted since, in order. -/
def Obligations.FifoOrderOverRuns : Prop :=
  ∀ (s t : State) (inputs : List Input), s.Inv → (∀ i ∈ inputs, i.noReset = true) → runInputs s inputs = .next t →
    t.q <:+ s.q ++ accepted (t.trace.drop s.trace.length)

/-- R133, R181, R135: what one scan pass and its effects come to, per class: the bytes removed, the events, in order, and
the return to `S_IDLE`. -/
def Obligations.NetEffectOfAScanPass : Prop :=
  ∀ s : State, s.Inv → s.pst = .idle → s.cst = .idle →
    ∀ m c h l e rest, s.q = m :: c :: h :: l :: e :: rest →
      match classify m c with
      | .desync => ∃ t, runInputs s (consumerTurns 2) = .next t ∧ t.cst = .idle ∧ t.q = s.q.drop 1 ∧ t.trace = s.trace
      | .invalid => ∃ t, runInputs s (consumerTurns 2) = .next t ∧ t.cst = .idle ∧ t.q = s.q.drop 1 ∧ t.trace = s.trace
      | .outon => ∃ t, runInputs s (consumerTurns (2 + outputDrop s.cfg)) = .next t ∧ t.cst = .idle ∧
          t.q = s.q.drop (outputDrop s.cfg) ∧ t.trace = s.trace ++ [.out true]
      | .outoff => ∃ t, runInputs s (consumerTurns (2 + outputDrop s.cfg)) = .next t ∧ t.cst = .idle ∧
          t.q = s.q.drop (outputDrop s.cfg) ∧ t.trace = s.trace ++ [.out false]
      | .setperiod => ∃ t, runInputs s (consumerTurns 12) = .next t ∧ t.cst = .idle ∧ t.q = rest ∧
          t.trace = s.trace ++ periodEvents (decodePeriod h l e)

/-- R132: with transmit ready, at most twelve consumer steps bring the consumer back to `S_IDLE`, and from `S_IDLE` with
a window they remove at least one byte. -/
def Obligations.ScanMakesProgress : Prop :=
  ∀ s : State, s.Inv → s.pst = .idle →
    ∃ k t, k ≤ 12 ∧ runInputs s (consumerTurns k) = .next t ∧ t.cst = .idle ∧
      (s.cst = .idle → 5 ≤ s.count → t.count < s.count)

/-- R217: while transmit is not ready a consumer that has a byte to send stays where it is and sends nothing, and a
running handler stays running, whatever arrives. -/
def Obligations.TransmitStallHolds : Prop :=
  ∀ (s : State) (inputs : List Input), s.Inv → (s.cst = .tx ∨ s.cst = .udiag) →
    (∀ i ∈ inputs, i.txReady = false ∧ i.noReset = true) →
    ∃ t, runInputs s inputs = .next t ∧ t.cst = s.cst ∧ t.rsn = s.rsn ∧ t.period = s.period ∧
      effects t.trace = effects s.trace ∧ (s.pst = .diag → t.pst = .diag)

/-- R140, without arrivals in between: the consumer alone, transmit ready, does what the reference algorithm R139 does on
the queue. -/
def Obligations.ConsumerPerformsReferenceAlgorithm : Prop :=
  ∀ s : State, s.Inv → s.pst = .idle → s.cst = .idle →
    ∃ k t, runInputs s (consumerTurns k) = .next t ∧ t.quiescent ∧
      t.trace = s.trace ++ (pollLoop s.cfg s.count s.q).1 ∧ t.q = (pollLoop s.cfg s.count s.q).2

/-- R141: two runs over the same offered bytes, neither overrunning and both ending quiescent with nothing left offered,
have the same effects in the same order and the same queue. -/
def Obligations.EffectsIndependentOfSchedule : Prop :=
  ∀ (s t u : State) (is js : List Input), s.Inv → s.pst = .idle →
    (∀ i ∈ is, i.noReset = true) → (∀ j ∈ js, j.noReset = true) → offeredBytes is = offeredBytes js →
    runInputs s is = .next t → runInputs s js = .next u →
    t.quiescent → u.quiescent → t.rx = [] → u.rx = [] →
    noOverrun (t.trace.drop s.trace.length) = true → noOverrun (u.trace.drop s.trace.length) = true →
    effects t.trace = effects u.trace ∧ t.q = u.q

/-- R256: a safe stream, offered to an idle block with an empty queue and accepted without overrun, has exactly its
frames' effects, in order, at every quiescent end of a run, whatever the schedule. What is queued then is bytes 1 to 4 of
the last frame, if that is a SetOutput frame and the policy FAITHFUL (R134), and nothing otherwise. -/
def Obligations.SafeStreamHasItsEffects : Prop :=
  ∀ (s t : State) (items : List StreamItem) (inputs : List Input), s.Inv → s.pst = .idle → s.cst = .idle →
    s.count = 0 → s.rx = [] → 5 ≤ s.cfg.capacity → (∀ item ∈ items, safeItem s.cfg item = true) →
    (∀ i ∈ inputs, i.noReset = true) → offeredBytes inputs = expandAll items →
    runInputs s inputs = .next t → t.quiescent → t.rx = [] → noOverrun (t.trace.drop s.trace.length) = true →
    effects t.trace = effects s.trace ++ items.flatMap itemEffect ∧ t.q = streamLeftover s.cfg items

/-- R25, R110: where the queue lies in storage, and a capacity not reached, cannot be told from what the block does. -/
def Obligations.LayoutIsUnobservable : Prop :=
  ∀ s s' t : State, s.Inv → s'.Inv → s.sameQueue s' → pushStatus s = pushStatus s' → step s = .next t →
    ∃ t', step s' = .next t' ∧ t.sameQueue t'

end
end

