-- ==== Sys2Proof/Laws/Memory.lean ====
section
/-! SUPPORT. The storage: read after write, and that a write keeps the canonical form and the address bound. -/

namespace Sys2Proof.Machine

theorem Memory.read_write_ne (m : Memory) (j : Nat) (v : Byte) {a : Nat} (h : a ≠ j) :
    Memory.read (Memory.write m j v) a = Memory.read m a := by
  induction m with
  | nil => simp only [Memory.write]; split <;> simp [Memory.read, Ne.symm h]
  | cons c m ih =>
    obtain ⟨b, w⟩ := c
    simp only [Memory.write]
    split_ifs with h1 h2 h3
    · rfl
    · simp [Memory.read, Ne.symm h]
    · subst h3; simp [Memory.read, Ne.symm h]
    · subst h3; simp [Memory.read, Ne.symm h]
    · simp [Memory.read, ih]

/-- An address below every listed one reads as unlisted. -/
theorem Memory.read_of_lt (m : Memory) {j : Nat} (h : ∀ c ∈ m, j < c.1) : Memory.read m j = Memory.unlisted := by
  induction m with
  | nil => rfl
  | cons c m ih =>
    have hc := h c (by simp)
    simp only [Memory.read]
    rw [if_neg (by omega), ih fun d hd => h d (by simp [hd])]

theorem Memory.read_write_self {m : Memory} (hm : Memory.wf m) (j : Nat) (v : Byte) :
    Memory.read (Memory.write m j v) j = v := by
  induction m with
  | nil => simp only [Memory.write]; split <;> simp_all [Memory.read]
  | cons c m ih =>
    obtain ⟨b, w⟩ := c
    obtain ⟨hp, hv⟩ := hm
    have hlt := (List.pairwise_cons.1 hp).1
    have hmwf : Memory.wf m := ⟨(List.pairwise_cons.1 hp).2, fun d hd => hv d (by simp [hd])⟩
    simp only [Memory.write]
    split_ifs with h1 h2 h3 h4
    · rw [h2]
      refine Memory.read_of_lt _ fun d hd => ?_
      rcases List.mem_cons.1 hd with rfl | hd
      · exact h1
      · exact h1.trans (hlt d hd)
    · simp [Memory.read]
    · rw [h4]; exact Memory.read_of_lt m fun d hd => h3 ▸ hlt d hd
    · simp [Memory.read]
    · simp [Memory.read, Ne.symm h3, ih hmwf]

/-- Where an entry of the written storage comes from. -/
theorem Memory.mem_write {m : Memory} {j : Nat} {v : Byte} {c : Host.Cell} (h : c ∈ Memory.write m j v) :
    c ∈ m ∨ (c = (j, v) ∧ v ≠ Memory.unlisted) := by
  induction m with
  | nil => simp only [Memory.write] at h; split at h <;> simp_all
  | cons d m ih =>
    obtain ⟨b, w⟩ := d
    simp only [Memory.write] at h
    split_ifs at h <;> simp_all <;> grind

theorem Memory.write_wf {m : Memory} (hm : Memory.wf m) (j : Nat) (v : Byte) : Memory.wf (Memory.write m j v) := by
  refine ⟨?_, fun c hc => ?_⟩
  · induction m with
    | nil => simp only [Memory.write]; split <;> simp
    | cons d m ih =>
      obtain ⟨b, w⟩ := d
      obtain ⟨hp, hv⟩ := hm
      obtain ⟨hlt, hp'⟩ := List.pairwise_cons.1 hp
      have hmwf : Memory.wf m := ⟨hp', fun d hd => hv d (by simp [hd])⟩
      simp only [Memory.write]
      split_ifs with h1 h2 h3 h4
      · exact hp
      · refine List.pairwise_cons.2 ⟨fun d hd => ?_, hp⟩
        rcases List.mem_cons.1 hd with rfl | hd
        · exact h1
        · exact h1.trans (hlt d hd)
      · exact hp'
      · exact List.pairwise_cons.2 ⟨fun d hd => h3 ▸ hlt d hd, hp'⟩
      · refine List.pairwise_cons.2 ⟨fun d hd => ?_, ih hmwf⟩
        rcases Memory.mem_write hd with hd | ⟨rfl, -⟩
        · exact hlt d hd
        · simp only; omega
  · rcases Memory.mem_write hc with hc | ⟨rfl, hne⟩
    · exact hm.2 c hc
    · exact hne

theorem Memory.write_inside {m : Memory} {n j : Nat} (hm : ∀ c ∈ m, c.1 < n) (hj : j < n) (v : Byte) :
    ∀ c ∈ Memory.write m j v, c.1 < n := by
  intro c hc
  rcases Memory.mem_write hc with hc | ⟨rfl, -⟩
  · exact hm c hc
  · exact hj

theorem Memory.reset_wf (c : Config) : Memory.wf (State.resetWith c).mem := by simp [State.resetWith, Memory.wf]

end Sys2Proof.Machine
end

