-- ==== Sys2Proof/Laws/State.lean ====
section
/-! SUPPORT. One lemma per field of the state for each named update, true by rfl. -/

namespace Sys2Proof.Machine

variable (s : State)

/-! ## State.emit -/

@[simp] theorem State.emit_cfg (e : Event) : (s.emit e).cfg = s.cfg := rfl
@[simp] theorem State.emit_mem (e : Event) : (s.emit e).mem = s.mem := rfl
@[simp] theorem State.emit_head (e : Event) : (s.emit e).head = s.head := rfl
@[simp] theorem State.emit_tail (e : Event) : (s.emit e).tail = s.tail := rfl
@[simp] theorem State.emit_count (e : Event) : (s.emit e).count = s.count := rfl
@[simp] theorem State.emit_pst (e : Event) : (s.emit e).pst = s.pst := rfl
@[simp] theorem State.emit_cst (e : Event) : (s.emit e).cst = s.cst := rfl
@[simp] theorem State.emit_fm (e : Event) : (s.emit e).fm = s.fm := rfl
@[simp] theorem State.emit_fc (e : Event) : (s.emit e).fc = s.fc := rfl
@[simp] theorem State.emit_fh (e : Event) : (s.emit e).fh = s.fh := rfl
@[simp] theorem State.emit_fl (e : Event) : (s.emit e).fl = s.fl := rfl
@[simp] theorem State.emit_fe (e : Event) : (s.emit e).fe = s.fe := rfl
@[simp] theorem State.emit_outv (e : Event) : (s.emit e).outv = s.outv := rfl
@[simp] theorem State.emit_period (e : Event) : (s.emit e).period = s.period := rfl
@[simp] theorem State.emit_drop (e : Event) : (s.emit e).drop = s.drop := rfl
@[simp] theorem State.emit_dnext (e : Event) : (s.emit e).dnext = s.dnext := rfl
@[simp] theorem State.emit_rsp (e : Event) : (s.emit e).rsp = s.rsp := rfl
@[simp] theorem State.emit_rsn (e : Event) : (s.emit e).rsn = s.rsn := rfl
@[simp] theorem State.emit_trace (e : Event) : (s.emit e).trace = s.trace ++ [e] := rfl
@[simp] theorem State.emit_answer (e : Event) : (s.emit e).answer = s.answer := rfl
@[simp] theorem State.emit_rx (e : Event) : (s.emit e).rx = s.rx := rfl
@[simp] theorem State.emit_txReady (e : Event) : (s.emit e).txReady = s.txReady := rfl
@[simp] theorem State.emit_inputs (e : Event) : (s.emit e).inputs = s.inputs := rfl
@[simp] theorem State.emit_tick (e : Event) : (s.emit e).tick = s.tick := rfl

/-! ## State.reply -/

@[simp] theorem State.reply_cfg (a : Answer) : (s.reply a).cfg = s.cfg := rfl
@[simp] theorem State.reply_mem (a : Answer) : (s.reply a).mem = s.mem := rfl
@[simp] theorem State.reply_head (a : Answer) : (s.reply a).head = s.head := rfl
@[simp] theorem State.reply_tail (a : Answer) : (s.reply a).tail = s.tail := rfl
@[simp] theorem State.reply_count (a : Answer) : (s.reply a).count = s.count := rfl
@[simp] theorem State.reply_pst (a : Answer) : (s.reply a).pst = s.pst := rfl
@[simp] theorem State.reply_cst (a : Answer) : (s.reply a).cst = s.cst := rfl
@[simp] theorem State.reply_fm (a : Answer) : (s.reply a).fm = s.fm := rfl
@[simp] theorem State.reply_fc (a : Answer) : (s.reply a).fc = s.fc := rfl
@[simp] theorem State.reply_fh (a : Answer) : (s.reply a).fh = s.fh := rfl
@[simp] theorem State.reply_fl (a : Answer) : (s.reply a).fl = s.fl := rfl
@[simp] theorem State.reply_fe (a : Answer) : (s.reply a).fe = s.fe := rfl
@[simp] theorem State.reply_outv (a : Answer) : (s.reply a).outv = s.outv := rfl
@[simp] theorem State.reply_period (a : Answer) : (s.reply a).period = s.period := rfl
@[simp] theorem State.reply_drop (a : Answer) : (s.reply a).drop = s.drop := rfl
@[simp] theorem State.reply_dnext (a : Answer) : (s.reply a).dnext = s.dnext := rfl
@[simp] theorem State.reply_rsp (a : Answer) : (s.reply a).rsp = s.rsp := rfl
@[simp] theorem State.reply_rsn (a : Answer) : (s.reply a).rsn = s.rsn := rfl
@[simp] theorem State.reply_trace (a : Answer) : (s.reply a).trace = s.trace := rfl
@[simp] theorem State.reply_answer (a : Answer) : (s.reply a).answer = a := rfl
@[simp] theorem State.reply_rx (a : Answer) : (s.reply a).rx = s.rx := rfl
@[simp] theorem State.reply_txReady (a : Answer) : (s.reply a).txReady = s.txReady := rfl
@[simp] theorem State.reply_inputs (a : Answer) : (s.reply a).inputs = s.inputs := rfl
@[simp] theorem State.reply_tick (a : Answer) : (s.reply a).tick = s.tick := rfl

/-! ## State.storeByte -/

@[simp] theorem State.storeByte_cfg (b : Byte) : (s.storeByte b).cfg = s.cfg := rfl
@[simp] theorem State.storeByte_mem (b : Byte) : (s.storeByte b).mem = s.mem.write s.head b := rfl
@[simp] theorem State.storeByte_head (b : Byte) : (s.storeByte b).head = (s.head + 1) % s.cfg.capacity := rfl
@[simp] theorem State.storeByte_tail (b : Byte) : (s.storeByte b).tail = s.tail := rfl
@[simp] theorem State.storeByte_count (b : Byte) : (s.storeByte b).count = s.count + 1 := rfl
@[simp] theorem State.storeByte_pst (b : Byte) : (s.storeByte b).pst = s.pst := rfl
@[simp] theorem State.storeByte_cst (b : Byte) : (s.storeByte b).cst = s.cst := rfl
@[simp] theorem State.storeByte_fm (b : Byte) : (s.storeByte b).fm = s.fm := rfl
@[simp] theorem State.storeByte_fc (b : Byte) : (s.storeByte b).fc = s.fc := rfl
@[simp] theorem State.storeByte_fh (b : Byte) : (s.storeByte b).fh = s.fh := rfl
@[simp] theorem State.storeByte_fl (b : Byte) : (s.storeByte b).fl = s.fl := rfl
@[simp] theorem State.storeByte_fe (b : Byte) : (s.storeByte b).fe = s.fe := rfl
@[simp] theorem State.storeByte_outv (b : Byte) : (s.storeByte b).outv = s.outv := rfl
@[simp] theorem State.storeByte_period (b : Byte) : (s.storeByte b).period = s.period := rfl
@[simp] theorem State.storeByte_drop (b : Byte) : (s.storeByte b).drop = s.drop := rfl
@[simp] theorem State.storeByte_dnext (b : Byte) : (s.storeByte b).dnext = s.dnext := rfl
@[simp] theorem State.storeByte_rsp (b : Byte) : (s.storeByte b).rsp = s.rsp := rfl
@[simp] theorem State.storeByte_rsn (b : Byte) : (s.storeByte b).rsn = s.rsn := rfl
@[simp] theorem State.storeByte_trace (b : Byte) : (s.storeByte b).trace = s.trace := rfl
@[simp] theorem State.storeByte_answer (b : Byte) : (s.storeByte b).answer = s.answer := rfl
@[simp] theorem State.storeByte_rx (b : Byte) : (s.storeByte b).rx = s.rx := rfl
@[simp] theorem State.storeByte_txReady (b : Byte) : (s.storeByte b).txReady = s.txReady := rfl
@[simp] theorem State.storeByte_inputs (b : Byte) : (s.storeByte b).inputs = s.inputs := rfl
@[simp] theorem State.storeByte_tick (b : Byte) : (s.storeByte b).tick = s.tick := rfl

/-! ## State.removeOldest -/

@[simp] theorem State.removeOldest_cfg : s.removeOldest.cfg = s.cfg := rfl
@[simp] theorem State.removeOldest_mem : s.removeOldest.mem = s.mem := rfl
@[simp] theorem State.removeOldest_head : s.removeOldest.head = s.head := rfl
@[simp] theorem State.removeOldest_tail : s.removeOldest.tail = (s.tail + 1) % s.cfg.capacity := rfl
@[simp] theorem State.removeOldest_count : s.removeOldest.count = s.count - 1 := rfl
@[simp] theorem State.removeOldest_pst : s.removeOldest.pst = s.pst := rfl
@[simp] theorem State.removeOldest_cst : s.removeOldest.cst = s.cst := rfl
@[simp] theorem State.removeOldest_fm : s.removeOldest.fm = s.fm := rfl
@[simp] theorem State.removeOldest_fc : s.removeOldest.fc = s.fc := rfl
@[simp] theorem State.removeOldest_fh : s.removeOldest.fh = s.fh := rfl
@[simp] theorem State.removeOldest_fl : s.removeOldest.fl = s.fl := rfl
@[simp] theorem State.removeOldest_fe : s.removeOldest.fe = s.fe := rfl
@[simp] theorem State.removeOldest_outv : s.removeOldest.outv = s.outv := rfl
@[simp] theorem State.removeOldest_period : s.removeOldest.period = s.period := rfl
@[simp] theorem State.removeOldest_drop : s.removeOldest.drop = s.drop := rfl
@[simp] theorem State.removeOldest_dnext : s.removeOldest.dnext = s.dnext := rfl
@[simp] theorem State.removeOldest_rsp : s.removeOldest.rsp = s.rsp := rfl
@[simp] theorem State.removeOldest_rsn : s.removeOldest.rsn = s.rsn := rfl
@[simp] theorem State.removeOldest_trace : s.removeOldest.trace = s.trace := rfl
@[simp] theorem State.removeOldest_answer : s.removeOldest.answer = s.answer := rfl
@[simp] theorem State.removeOldest_rx : s.removeOldest.rx = s.rx := rfl
@[simp] theorem State.removeOldest_txReady : s.removeOldest.txReady = s.txReady := rfl
@[simp] theorem State.removeOldest_inputs : s.removeOldest.inputs = s.inputs := rfl
@[simp] theorem State.removeOldest_tick : s.removeOldest.tick = s.tick := rfl

/-! ## State.latch -/

@[simp] theorem State.latch_cfg (w : Frame) : (s.latch w).cfg = s.cfg := rfl
@[simp] theorem State.latch_mem (w : Frame) : (s.latch w).mem = s.mem := rfl
@[simp] theorem State.latch_head (w : Frame) : (s.latch w).head = s.head := rfl
@[simp] theorem State.latch_tail (w : Frame) : (s.latch w).tail = s.tail := rfl
@[simp] theorem State.latch_count (w : Frame) : (s.latch w).count = s.count := rfl
@[simp] theorem State.latch_pst (w : Frame) : (s.latch w).pst = s.pst := rfl
@[simp] theorem State.latch_cst (w : Frame) : (s.latch w).cst = s.cst := rfl
@[simp] theorem State.latch_fm (w : Frame) : (s.latch w).fm = w.b0 := rfl
@[simp] theorem State.latch_fc (w : Frame) : (s.latch w).fc = w.b1 := rfl
@[simp] theorem State.latch_fh (w : Frame) : (s.latch w).fh = w.b2 := rfl
@[simp] theorem State.latch_fl (w : Frame) : (s.latch w).fl = w.b3 := rfl
@[simp] theorem State.latch_fe (w : Frame) : (s.latch w).fe = w.b4 := rfl
@[simp] theorem State.latch_outv (w : Frame) : (s.latch w).outv = s.outv := rfl
@[simp] theorem State.latch_period (w : Frame) : (s.latch w).period = s.period := rfl
@[simp] theorem State.latch_drop (w : Frame) : (s.latch w).drop = s.drop := rfl
@[simp] theorem State.latch_dnext (w : Frame) : (s.latch w).dnext = s.dnext := rfl
@[simp] theorem State.latch_rsp (w : Frame) : (s.latch w).rsp = s.rsp := rfl
@[simp] theorem State.latch_rsn (w : Frame) : (s.latch w).rsn = s.rsn := rfl
@[simp] theorem State.latch_trace (w : Frame) : (s.latch w).trace = s.trace := rfl
@[simp] theorem State.latch_answer (w : Frame) : (s.latch w).answer = s.answer := rfl
@[simp] theorem State.latch_rx (w : Frame) : (s.latch w).rx = s.rx := rfl
@[simp] theorem State.latch_txReady (w : Frame) : (s.latch w).txReady = s.txReady := rfl
@[simp] theorem State.latch_inputs (w : Frame) : (s.latch w).inputs = s.inputs := rfl
@[simp] theorem State.latch_tick (w : Frame) : (s.latch w).tick = s.tick := rfl

/-! ## State.startDrop -/

@[simp] theorem State.startDrop_cfg (n : Nat) (d : DNext) : (s.startDrop n d).cfg = s.cfg := rfl
@[simp] theorem State.startDrop_mem (n : Nat) (d : DNext) : (s.startDrop n d).mem = s.mem := rfl
@[simp] theorem State.startDrop_head (n : Nat) (d : DNext) : (s.startDrop n d).head = s.head := rfl
@[simp] theorem State.startDrop_tail (n : Nat) (d : DNext) : (s.startDrop n d).tail = s.tail := rfl
@[simp] theorem State.startDrop_count (n : Nat) (d : DNext) : (s.startDrop n d).count = s.count := rfl
@[simp] theorem State.startDrop_pst (n : Nat) (d : DNext) : (s.startDrop n d).pst = s.pst := rfl
@[simp] theorem State.startDrop_cst (n : Nat) (d : DNext) : (s.startDrop n d).cst = .drop := rfl
@[simp] theorem State.startDrop_fm (n : Nat) (d : DNext) : (s.startDrop n d).fm = s.fm := rfl
@[simp] theorem State.startDrop_fc (n : Nat) (d : DNext) : (s.startDrop n d).fc = s.fc := rfl
@[simp] theorem State.startDrop_fh (n : Nat) (d : DNext) : (s.startDrop n d).fh = s.fh := rfl
@[simp] theorem State.startDrop_fl (n : Nat) (d : DNext) : (s.startDrop n d).fl = s.fl := rfl
@[simp] theorem State.startDrop_fe (n : Nat) (d : DNext) : (s.startDrop n d).fe = s.fe := rfl
@[simp] theorem State.startDrop_outv (n : Nat) (d : DNext) : (s.startDrop n d).outv = s.outv := rfl
@[simp] theorem State.startDrop_period (n : Nat) (d : DNext) : (s.startDrop n d).period = s.period := rfl
@[simp] theorem State.startDrop_drop (n : Nat) (d : DNext) : (s.startDrop n d).drop = n := rfl
@[simp] theorem State.startDrop_dnext (n : Nat) (d : DNext) : (s.startDrop n d).dnext = d := rfl
@[simp] theorem State.startDrop_rsp (n : Nat) (d : DNext) : (s.startDrop n d).rsp = s.rsp := rfl
@[simp] theorem State.startDrop_rsn (n : Nat) (d : DNext) : (s.startDrop n d).rsn = s.rsn := rfl
@[simp] theorem State.startDrop_trace (n : Nat) (d : DNext) : (s.startDrop n d).trace = s.trace := rfl
@[simp] theorem State.startDrop_answer (n : Nat) (d : DNext) : (s.startDrop n d).answer = s.answer := rfl
@[simp] theorem State.startDrop_rx (n : Nat) (d : DNext) : (s.startDrop n d).rx = s.rx := rfl
@[simp] theorem State.startDrop_txReady (n : Nat) (d : DNext) : (s.startDrop n d).txReady = s.txReady := rfl
@[simp] theorem State.startDrop_inputs (n : Nat) (d : DNext) : (s.startDrop n d).inputs = s.inputs := rfl
@[simp] theorem State.startDrop_tick (n : Nat) (d : DNext) : (s.startDrop n d).tick = s.tick := rfl

/-! ## State.pendOutput -/

@[simp] theorem State.pendOutput_cfg (v : Bool) : (s.pendOutput v).cfg = s.cfg := rfl
@[simp] theorem State.pendOutput_mem (v : Bool) : (s.pendOutput v).mem = s.mem := rfl
@[simp] theorem State.pendOutput_head (v : Bool) : (s.pendOutput v).head = s.head := rfl
@[simp] theorem State.pendOutput_tail (v : Bool) : (s.pendOutput v).tail = s.tail := rfl
@[simp] theorem State.pendOutput_count (v : Bool) : (s.pendOutput v).count = s.count := rfl
@[simp] theorem State.pendOutput_pst (v : Bool) : (s.pendOutput v).pst = s.pst := rfl
@[simp] theorem State.pendOutput_cst (v : Bool) : (s.pendOutput v).cst = .out := rfl
@[simp] theorem State.pendOutput_fm (v : Bool) : (s.pendOutput v).fm = s.fm := rfl
@[simp] theorem State.pendOutput_fc (v : Bool) : (s.pendOutput v).fc = s.fc := rfl
@[simp] theorem State.pendOutput_fh (v : Bool) : (s.pendOutput v).fh = s.fh := rfl
@[simp] theorem State.pendOutput_fl (v : Bool) : (s.pendOutput v).fl = s.fl := rfl
@[simp] theorem State.pendOutput_fe (v : Bool) : (s.pendOutput v).fe = s.fe := rfl
@[simp] theorem State.pendOutput_outv (v : Bool) : (s.pendOutput v).outv = v := rfl
@[simp] theorem State.pendOutput_period (v : Bool) : (s.pendOutput v).period = s.period := rfl
@[simp] theorem State.pendOutput_drop (v : Bool) : (s.pendOutput v).drop = s.drop := rfl
@[simp] theorem State.pendOutput_dnext (v : Bool) : (s.pendOutput v).dnext = s.dnext := rfl
@[simp] theorem State.pendOutput_rsp (v : Bool) : (s.pendOutput v).rsp = s.rsp := rfl
@[simp] theorem State.pendOutput_rsn (v : Bool) : (s.pendOutput v).rsn = s.rsn := rfl
@[simp] theorem State.pendOutput_trace (v : Bool) : (s.pendOutput v).trace = s.trace := rfl
@[simp] theorem State.pendOutput_answer (v : Bool) : (s.pendOutput v).answer = s.answer := rfl
@[simp] theorem State.pendOutput_rx (v : Bool) : (s.pendOutput v).rx = s.rx := rfl
@[simp] theorem State.pendOutput_txReady (v : Bool) : (s.pendOutput v).txReady = s.txReady := rfl
@[simp] theorem State.pendOutput_inputs (v : Bool) : (s.pendOutput v).inputs = s.inputs := rfl
@[simp] theorem State.pendOutput_tick (v : Bool) : (s.pendOutput v).tick = s.tick := rfl

/-! ## State.withPeriod -/

@[simp] theorem State.withPeriod_cfg (p : U16) : (s.withPeriod p).cfg = s.cfg := rfl
@[simp] theorem State.withPeriod_mem (p : U16) : (s.withPeriod p).mem = s.mem := rfl
@[simp] theorem State.withPeriod_head (p : U16) : (s.withPeriod p).head = s.head := rfl
@[simp] theorem State.withPeriod_tail (p : U16) : (s.withPeriod p).tail = s.tail := rfl
@[simp] theorem State.withPeriod_count (p : U16) : (s.withPeriod p).count = s.count := rfl
@[simp] theorem State.withPeriod_pst (p : U16) : (s.withPeriod p).pst = s.pst := rfl
@[simp] theorem State.withPeriod_cst (p : U16) : (s.withPeriod p).cst = s.cst := rfl
@[simp] theorem State.withPeriod_fm (p : U16) : (s.withPeriod p).fm = s.fm := rfl
@[simp] theorem State.withPeriod_fc (p : U16) : (s.withPeriod p).fc = s.fc := rfl
@[simp] theorem State.withPeriod_fh (p : U16) : (s.withPeriod p).fh = s.fh := rfl
@[simp] theorem State.withPeriod_fl (p : U16) : (s.withPeriod p).fl = s.fl := rfl
@[simp] theorem State.withPeriod_fe (p : U16) : (s.withPeriod p).fe = s.fe := rfl
@[simp] theorem State.withPeriod_outv (p : U16) : (s.withPeriod p).outv = s.outv := rfl
@[simp] theorem State.withPeriod_period (p : U16) : (s.withPeriod p).period = p := rfl
@[simp] theorem State.withPeriod_drop (p : U16) : (s.withPeriod p).drop = s.drop := rfl
@[simp] theorem State.withPeriod_dnext (p : U16) : (s.withPeriod p).dnext = s.dnext := rfl
@[simp] theorem State.withPeriod_rsp (p : U16) : (s.withPeriod p).rsp = s.rsp := rfl
@[simp] theorem State.withPeriod_rsn (p : U16) : (s.withPeriod p).rsn = s.rsn := rfl
@[simp] theorem State.withPeriod_trace (p : U16) : (s.withPeriod p).trace = s.trace := rfl
@[simp] theorem State.withPeriod_answer (p : U16) : (s.withPeriod p).answer = s.answer := rfl
@[simp] theorem State.withPeriod_rx (p : U16) : (s.withPeriod p).rx = s.rx := rfl
@[simp] theorem State.withPeriod_txReady (p : U16) : (s.withPeriod p).txReady = s.txReady := rfl
@[simp] theorem State.withPeriod_inputs (p : U16) : (s.withPeriod p).inputs = s.inputs := rfl
@[simp] theorem State.withPeriod_tick (p : U16) : (s.withPeriod p).tick = s.tick := rfl

/-! ## State.goto -/

@[simp] theorem State.goto_cfg (c : CState) : (s.goto c).cfg = s.cfg := rfl
@[simp] theorem State.goto_mem (c : CState) : (s.goto c).mem = s.mem := rfl
@[simp] theorem State.goto_head (c : CState) : (s.goto c).head = s.head := rfl
@[simp] theorem State.goto_tail (c : CState) : (s.goto c).tail = s.tail := rfl
@[simp] theorem State.goto_count (c : CState) : (s.goto c).count = s.count := rfl
@[simp] theorem State.goto_pst (c : CState) : (s.goto c).pst = s.pst := rfl
@[simp] theorem State.goto_cst (c : CState) : (s.goto c).cst = c := rfl
@[simp] theorem State.goto_fm (c : CState) : (s.goto c).fm = s.fm := rfl
@[simp] theorem State.goto_fc (c : CState) : (s.goto c).fc = s.fc := rfl
@[simp] theorem State.goto_fh (c : CState) : (s.goto c).fh = s.fh := rfl
@[simp] theorem State.goto_fl (c : CState) : (s.goto c).fl = s.fl := rfl
@[simp] theorem State.goto_fe (c : CState) : (s.goto c).fe = s.fe := rfl
@[simp] theorem State.goto_outv (c : CState) : (s.goto c).outv = s.outv := rfl
@[simp] theorem State.goto_period (c : CState) : (s.goto c).period = s.period := rfl
@[simp] theorem State.goto_drop (c : CState) : (s.goto c).drop = s.drop := rfl
@[simp] theorem State.goto_dnext (c : CState) : (s.goto c).dnext = s.dnext := rfl
@[simp] theorem State.goto_rsp (c : CState) : (s.goto c).rsp = s.rsp := rfl
@[simp] theorem State.goto_rsn (c : CState) : (s.goto c).rsn = s.rsn := rfl
@[simp] theorem State.goto_trace (c : CState) : (s.goto c).trace = s.trace := rfl
@[simp] theorem State.goto_answer (c : CState) : (s.goto c).answer = s.answer := rfl
@[simp] theorem State.goto_rx (c : CState) : (s.goto c).rx = s.rx := rfl
@[simp] theorem State.goto_txReady (c : CState) : (s.goto c).txReady = s.txReady := rfl
@[simp] theorem State.goto_inputs (c : CState) : (s.goto c).inputs = s.inputs := rfl
@[simp] theorem State.goto_tick (c : CState) : (s.goto c).tick = s.tick := rfl

/-! ## State.startResponse -/

@[simp] theorem State.startResponse_cfg (p : U16) : (s.startResponse p).cfg = s.cfg := rfl
@[simp] theorem State.startResponse_mem (p : U16) : (s.startResponse p).mem = s.mem := rfl
@[simp] theorem State.startResponse_head (p : U16) : (s.startResponse p).head = s.head := rfl
@[simp] theorem State.startResponse_tail (p : U16) : (s.startResponse p).tail = s.tail := rfl
@[simp] theorem State.startResponse_count (p : U16) : (s.startResponse p).count = s.count := rfl
@[simp] theorem State.startResponse_pst (p : U16) : (s.startResponse p).pst = s.pst := rfl
@[simp] theorem State.startResponse_cst (p : U16) : (s.startResponse p).cst = .tx := rfl
@[simp] theorem State.startResponse_fm (p : U16) : (s.startResponse p).fm = s.fm := rfl
@[simp] theorem State.startResponse_fc (p : U16) : (s.startResponse p).fc = s.fc := rfl
@[simp] theorem State.startResponse_fh (p : U16) : (s.startResponse p).fh = s.fh := rfl
@[simp] theorem State.startResponse_fl (p : U16) : (s.startResponse p).fl = s.fl := rfl
@[simp] theorem State.startResponse_fe (p : U16) : (s.startResponse p).fe = s.fe := rfl
@[simp] theorem State.startResponse_outv (p : U16) : (s.startResponse p).outv = s.outv := rfl
@[simp] theorem State.startResponse_period (p : U16) : (s.startResponse p).period = s.period := rfl
@[simp] theorem State.startResponse_drop (p : U16) : (s.startResponse p).drop = s.drop := rfl
@[simp] theorem State.startResponse_dnext (p : U16) : (s.startResponse p).dnext = s.dnext := rfl
@[simp] theorem State.startResponse_rsp (p : U16) : (s.startResponse p).rsp = buildResponse p := rfl
@[simp] theorem State.startResponse_rsn (p : U16) : (s.startResponse p).rsn = 0 := rfl
@[simp] theorem State.startResponse_trace (p : U16) : (s.startResponse p).trace = s.trace := rfl
@[simp] theorem State.startResponse_answer (p : U16) : (s.startResponse p).answer = s.answer := rfl
@[simp] theorem State.startResponse_rx (p : U16) : (s.startResponse p).rx = s.rx := rfl
@[simp] theorem State.startResponse_txReady (p : U16) : (s.startResponse p).txReady = s.txReady := rfl
@[simp] theorem State.startResponse_inputs (p : U16) : (s.startResponse p).inputs = s.inputs := rfl
@[simp] theorem State.startResponse_tick (p : U16) : (s.startResponse p).tick = s.tick := rfl

/-! ## State.advanceResponse -/

@[simp] theorem State.advanceResponse_cfg : s.advanceResponse.cfg = s.cfg := rfl
@[simp] theorem State.advanceResponse_mem : s.advanceResponse.mem = s.mem := rfl
@[simp] theorem State.advanceResponse_head : s.advanceResponse.head = s.head := rfl
@[simp] theorem State.advanceResponse_tail : s.advanceResponse.tail = s.tail := rfl
@[simp] theorem State.advanceResponse_count : s.advanceResponse.count = s.count := rfl
@[simp] theorem State.advanceResponse_pst : s.advanceResponse.pst = s.pst := rfl
@[simp] theorem State.advanceResponse_cst : s.advanceResponse.cst = if s.rsn = 4 then .idle else .tx := rfl
@[simp] theorem State.advanceResponse_fm : s.advanceResponse.fm = s.fm := rfl
@[simp] theorem State.advanceResponse_fc : s.advanceResponse.fc = s.fc := rfl
@[simp] theorem State.advanceResponse_fh : s.advanceResponse.fh = s.fh := rfl
@[simp] theorem State.advanceResponse_fl : s.advanceResponse.fl = s.fl := rfl
@[simp] theorem State.advanceResponse_fe : s.advanceResponse.fe = s.fe := rfl
@[simp] theorem State.advanceResponse_outv : s.advanceResponse.outv = s.outv := rfl
@[simp] theorem State.advanceResponse_period : s.advanceResponse.period = s.period := rfl
@[simp] theorem State.advanceResponse_drop : s.advanceResponse.drop = s.drop := rfl
@[simp] theorem State.advanceResponse_dnext : s.advanceResponse.dnext = s.dnext := rfl
@[simp] theorem State.advanceResponse_rsp : s.advanceResponse.rsp = s.rsp := rfl
@[simp] theorem State.advanceResponse_rsn : s.advanceResponse.rsn = s.rsn + 1 := rfl
@[simp] theorem State.advanceResponse_trace : s.advanceResponse.trace = s.trace := rfl
@[simp] theorem State.advanceResponse_answer : s.advanceResponse.answer = s.answer := rfl
@[simp] theorem State.advanceResponse_rx : s.advanceResponse.rx = s.rx := rfl
@[simp] theorem State.advanceResponse_txReady : s.advanceResponse.txReady = s.txReady := rfl
@[simp] theorem State.advanceResponse_inputs : s.advanceResponse.inputs = s.inputs := rfl
@[simp] theorem State.advanceResponse_tick : s.advanceResponse.tick = s.tick := rfl

/-! ## State.afterDiscard -/

@[simp] theorem State.afterDiscard_cfg (st : PopStatus) : (s.afterDiscard st).cfg = s.cfg := rfl
@[simp] theorem State.afterDiscard_mem (st : PopStatus) : (s.afterDiscard st).mem = s.mem := rfl
@[simp] theorem State.afterDiscard_head (st : PopStatus) : (s.afterDiscard st).head = s.head := rfl
@[simp] theorem State.afterDiscard_tail (st : PopStatus) : (s.afterDiscard st).tail = s.tail := rfl
@[simp] theorem State.afterDiscard_count (st : PopStatus) : (s.afterDiscard st).count = s.count := rfl
@[simp] theorem State.afterDiscard_pst (st : PopStatus) : (s.afterDiscard st).pst = s.pst := rfl
@[simp] theorem State.afterDiscard_fm (st : PopStatus) : (s.afterDiscard st).fm = s.fm := rfl
@[simp] theorem State.afterDiscard_fc (st : PopStatus) : (s.afterDiscard st).fc = s.fc := rfl
@[simp] theorem State.afterDiscard_fh (st : PopStatus) : (s.afterDiscard st).fh = s.fh := rfl
@[simp] theorem State.afterDiscard_fl (st : PopStatus) : (s.afterDiscard st).fl = s.fl := rfl
@[simp] theorem State.afterDiscard_fe (st : PopStatus) : (s.afterDiscard st).fe = s.fe := rfl
@[simp] theorem State.afterDiscard_outv (st : PopStatus) : (s.afterDiscard st).outv = s.outv := rfl
@[simp] theorem State.afterDiscard_period (st : PopStatus) : (s.afterDiscard st).period = s.period := rfl
@[simp] theorem State.afterDiscard_drop (st : PopStatus) : (s.afterDiscard st).drop = s.drop - 1 := rfl
@[simp] theorem State.afterDiscard_dnext (st : PopStatus) : (s.afterDiscard st).dnext = s.dnext := rfl
@[simp] theorem State.afterDiscard_rsp (st : PopStatus) : (s.afterDiscard st).rsp = s.rsp := rfl
@[simp] theorem State.afterDiscard_rsn (st : PopStatus) : (s.afterDiscard st).rsn = s.rsn := rfl
@[simp] theorem State.afterDiscard_trace (st : PopStatus) : (s.afterDiscard st).trace = s.trace := rfl
@[simp] theorem State.afterDiscard_answer (st : PopStatus) : (s.afterDiscard st).answer = s.answer := rfl
@[simp] theorem State.afterDiscard_rx (st : PopStatus) : (s.afterDiscard st).rx = s.rx := rfl
@[simp] theorem State.afterDiscard_txReady (st : PopStatus) : (s.afterDiscard st).txReady = s.txReady := rfl
@[simp] theorem State.afterDiscard_inputs (st : PopStatus) : (s.afterDiscard st).inputs = s.inputs := rfl
@[simp] theorem State.afterDiscard_tick (st : PopStatus) : (s.afterDiscard st).tick = s.tick := rfl

/-! ## State.handlerEntry -/

@[simp] theorem State.handlerEntry_cfg (b : Byte) (st : PushStatus) : (s.handlerEntry b st).cfg = s.cfg := rfl
@[simp] theorem State.handlerEntry_mem (b : Byte) (st : PushStatus) : (s.handlerEntry b st).mem = s.mem := rfl
@[simp] theorem State.handlerEntry_head (b : Byte) (st : PushStatus) : (s.handlerEntry b st).head = s.head := rfl
@[simp] theorem State.handlerEntry_tail (b : Byte) (st : PushStatus) : (s.handlerEntry b st).tail = s.tail := rfl
@[simp] theorem State.handlerEntry_count (b : Byte) (st : PushStatus) : (s.handlerEntry b st).count = s.count := rfl
@[simp] theorem State.handlerEntry_pst (b : Byte) (st : PushStatus) : (s.handlerEntry b st).pst = producerAfterPush st := rfl
@[simp] theorem State.handlerEntry_cst (b : Byte) (st : PushStatus) : (s.handlerEntry b st).cst = s.cst := rfl
@[simp] theorem State.handlerEntry_fm (b : Byte) (st : PushStatus) : (s.handlerEntry b st).fm = s.fm := rfl
@[simp] theorem State.handlerEntry_fc (b : Byte) (st : PushStatus) : (s.handlerEntry b st).fc = s.fc := rfl
@[simp] theorem State.handlerEntry_fh (b : Byte) (st : PushStatus) : (s.handlerEntry b st).fh = s.fh := rfl
@[simp] theorem State.handlerEntry_fl (b : Byte) (st : PushStatus) : (s.handlerEntry b st).fl = s.fl := rfl
@[simp] theorem State.handlerEntry_fe (b : Byte) (st : PushStatus) : (s.handlerEntry b st).fe = s.fe := rfl
@[simp] theorem State.handlerEntry_outv (b : Byte) (st : PushStatus) : (s.handlerEntry b st).outv = s.outv := rfl
@[simp] theorem State.handlerEntry_period (b : Byte) (st : PushStatus) : (s.handlerEntry b st).period = s.period := rfl
@[simp] theorem State.handlerEntry_drop (b : Byte) (st : PushStatus) : (s.handlerEntry b st).drop = s.drop := rfl
@[simp] theorem State.handlerEntry_dnext (b : Byte) (st : PushStatus) : (s.handlerEntry b st).dnext = s.dnext := rfl
@[simp] theorem State.handlerEntry_rsp (b : Byte) (st : PushStatus) : (s.handlerEntry b st).rsp = s.rsp := rfl
@[simp] theorem State.handlerEntry_rsn (b : Byte) (st : PushStatus) : (s.handlerEntry b st).rsn = s.rsn := rfl
@[simp] theorem State.handlerEntry_trace (b : Byte) (st : PushStatus) : (s.handlerEntry b st).trace = s.trace ++ [.rx b st] := rfl
@[simp] theorem State.handlerEntry_answer (b : Byte) (st : PushStatus) : (s.handlerEntry b st).answer = s.answer := rfl
@[simp] theorem State.handlerEntry_rx (b : Byte) (st : PushStatus) : (s.handlerEntry b st).rx = s.rx.tail := rfl
@[simp] theorem State.handlerEntry_txReady (b : Byte) (st : PushStatus) : (s.handlerEntry b st).txReady = s.txReady := rfl
@[simp] theorem State.handlerEntry_inputs (b : Byte) (st : PushStatus) : (s.handlerEntry b st).inputs = s.inputs := rfl
@[simp] theorem State.handlerEntry_tick (b : Byte) (st : PushStatus) : (s.handlerEntry b st).tick = s.tick := rfl

/-! ## State.handlerReturn -/

@[simp] theorem State.handlerReturn_cfg : s.handlerReturn.cfg = s.cfg := rfl
@[simp] theorem State.handlerReturn_mem : s.handlerReturn.mem = s.mem := rfl
@[simp] theorem State.handlerReturn_head : s.handlerReturn.head = s.head := rfl
@[simp] theorem State.handlerReturn_tail : s.handlerReturn.tail = s.tail := rfl
@[simp] theorem State.handlerReturn_count : s.handlerReturn.count = s.count := rfl
@[simp] theorem State.handlerReturn_pst : s.handlerReturn.pst = .idle := rfl
@[simp] theorem State.handlerReturn_cst : s.handlerReturn.cst = s.cst := rfl
@[simp] theorem State.handlerReturn_fm : s.handlerReturn.fm = s.fm := rfl
@[simp] theorem State.handlerReturn_fc : s.handlerReturn.fc = s.fc := rfl
@[simp] theorem State.handlerReturn_fh : s.handlerReturn.fh = s.fh := rfl
@[simp] theorem State.handlerReturn_fl : s.handlerReturn.fl = s.fl := rfl
@[simp] theorem State.handlerReturn_fe : s.handlerReturn.fe = s.fe := rfl
@[simp] theorem State.handlerReturn_outv : s.handlerReturn.outv = s.outv := rfl
@[simp] theorem State.handlerReturn_period : s.handlerReturn.period = s.period := rfl
@[simp] theorem State.handlerReturn_drop : s.handlerReturn.drop = s.drop := rfl
@[simp] theorem State.handlerReturn_dnext : s.handlerReturn.dnext = s.dnext := rfl
@[simp] theorem State.handlerReturn_rsp : s.handlerReturn.rsp = s.rsp := rfl
@[simp] theorem State.handlerReturn_rsn : s.handlerReturn.rsn = s.rsn := rfl
@[simp] theorem State.handlerReturn_trace : s.handlerReturn.trace = s.trace := rfl
@[simp] theorem State.handlerReturn_answer : s.handlerReturn.answer = s.answer := rfl
@[simp] theorem State.handlerReturn_rx : s.handlerReturn.rx = s.rx := rfl
@[simp] theorem State.handlerReturn_txReady : s.handlerReturn.txReady = s.txReady := rfl
@[simp] theorem State.handlerReturn_inputs : s.handlerReturn.inputs = s.inputs := rfl
@[simp] theorem State.handlerReturn_tick : s.handlerReturn.tick = s.tick := rfl

/-! ## State.sample -/

@[simp] theorem State.sample_cfg : s.sample.cfg = s.cfg := rfl
@[simp] theorem State.sample_mem : s.sample.mem = s.mem := rfl
@[simp] theorem State.sample_head : s.sample.head = s.head := rfl
@[simp] theorem State.sample_tail : s.sample.tail = s.tail := rfl
@[simp] theorem State.sample_count : s.sample.count = s.count := rfl
@[simp] theorem State.sample_pst : s.sample.pst = s.pst := rfl
@[simp] theorem State.sample_cst : s.sample.cst = s.cst := rfl
@[simp] theorem State.sample_fm : s.sample.fm = s.fm := rfl
@[simp] theorem State.sample_fc : s.sample.fc = s.fc := rfl
@[simp] theorem State.sample_fh : s.sample.fh = s.fh := rfl
@[simp] theorem State.sample_fl : s.sample.fl = s.fl := rfl
@[simp] theorem State.sample_fe : s.sample.fe = s.fe := rfl
@[simp] theorem State.sample_outv : s.sample.outv = s.outv := rfl
@[simp] theorem State.sample_period : s.sample.period = s.period := rfl
@[simp] theorem State.sample_drop : s.sample.drop = s.drop := rfl
@[simp] theorem State.sample_dnext : s.sample.dnext = s.dnext := rfl
@[simp] theorem State.sample_rsp : s.sample.rsp = s.rsp := rfl
@[simp] theorem State.sample_rsn : s.sample.rsn = s.rsn := rfl
@[simp] theorem State.sample_trace : s.sample.trace = s.trace := rfl
@[simp] theorem State.sample_answer : s.sample.answer = s.answer := rfl
@[simp] theorem State.sample_rx : s.sample.rx = s.rx ++ s.nextInput.offer.toList := rfl
@[simp] theorem State.sample_txReady : s.sample.txReady = s.nextInput.txReady := rfl
@[simp] theorem State.sample_inputs : s.sample.inputs = s.inputs.tail := rfl
@[simp] theorem State.sample_tick : s.sample.tick = if s.inputs.isEmpty then s.tick + 1 else s.tick := rfl

/-! ## State.withInput -/

@[simp] theorem State.withInput_cfg (i : Input) : (s.withInput i).cfg = s.cfg := rfl
@[simp] theorem State.withInput_mem (i : Input) : (s.withInput i).mem = s.mem := rfl
@[simp] theorem State.withInput_head (i : Input) : (s.withInput i).head = s.head := rfl
@[simp] theorem State.withInput_tail (i : Input) : (s.withInput i).tail = s.tail := rfl
@[simp] theorem State.withInput_count (i : Input) : (s.withInput i).count = s.count := rfl
@[simp] theorem State.withInput_pst (i : Input) : (s.withInput i).pst = s.pst := rfl
@[simp] theorem State.withInput_cst (i : Input) : (s.withInput i).cst = s.cst := rfl
@[simp] theorem State.withInput_fm (i : Input) : (s.withInput i).fm = s.fm := rfl
@[simp] theorem State.withInput_fc (i : Input) : (s.withInput i).fc = s.fc := rfl
@[simp] theorem State.withInput_fh (i : Input) : (s.withInput i).fh = s.fh := rfl
@[simp] theorem State.withInput_fl (i : Input) : (s.withInput i).fl = s.fl := rfl
@[simp] theorem State.withInput_fe (i : Input) : (s.withInput i).fe = s.fe := rfl
@[simp] theorem State.withInput_outv (i : Input) : (s.withInput i).outv = s.outv := rfl
@[simp] theorem State.withInput_period (i : Input) : (s.withInput i).period = s.period := rfl
@[simp] theorem State.withInput_drop (i : Input) : (s.withInput i).drop = s.drop := rfl
@[simp] theorem State.withInput_dnext (i : Input) : (s.withInput i).dnext = s.dnext := rfl
@[simp] theorem State.withInput_rsp (i : Input) : (s.withInput i).rsp = s.rsp := rfl
@[simp] theorem State.withInput_rsn (i : Input) : (s.withInput i).rsn = s.rsn := rfl
@[simp] theorem State.withInput_trace (i : Input) : (s.withInput i).trace = s.trace := rfl
@[simp] theorem State.withInput_answer (i : Input) : (s.withInput i).answer = s.answer := rfl
@[simp] theorem State.withInput_rx (i : Input) : (s.withInput i).rx = s.rx := rfl
@[simp] theorem State.withInput_txReady (i : Input) : (s.withInput i).txReady = s.txReady := rfl
@[simp] theorem State.withInput_inputs (i : Input) : (s.withInput i).inputs = i :: s.inputs := rfl
@[simp] theorem State.withInput_tick (i : Input) : (s.withInput i).tick = s.tick := rfl

@[simp] theorem State.afterDiscard_cst_ok :
    (s.afterDiscard .ok).cst = if s.drop - 1 = 0 then s.dnext.toCState else .drop := rfl
@[simp] theorem State.afterDiscard_cst_underrun : (s.afterDiscard .underrun).cst = .udiag := rfl

/-! ## State.resetBlock: the fields of R20 are those of `resetWith`, the others the environment's -/

@[simp] theorem State.resetBlock_cfg (kept : List Byte) : (s.resetBlock kept).cfg = s.cfg := rfl
@[simp] theorem State.resetBlock_mem (kept : List Byte) : (s.resetBlock kept).mem = (State.resetWith s.cfg).mem := rfl
@[simp] theorem State.resetBlock_head (kept : List Byte) : (s.resetBlock kept).head = (State.resetWith s.cfg).head := rfl
@[simp] theorem State.resetBlock_tail (kept : List Byte) : (s.resetBlock kept).tail = (State.resetWith s.cfg).tail := rfl
@[simp] theorem State.resetBlock_count (kept : List Byte) : (s.resetBlock kept).count = (State.resetWith s.cfg).count := rfl
@[simp] theorem State.resetBlock_pst (kept : List Byte) : (s.resetBlock kept).pst = (State.resetWith s.cfg).pst := rfl
@[simp] theorem State.resetBlock_cst (kept : List Byte) : (s.resetBlock kept).cst = (State.resetWith s.cfg).cst := rfl
@[simp] theorem State.resetBlock_fm (kept : List Byte) : (s.resetBlock kept).fm = (State.resetWith s.cfg).fm := rfl
@[simp] theorem State.resetBlock_fc (kept : List Byte) : (s.resetBlock kept).fc = (State.resetWith s.cfg).fc := rfl
@[simp] theorem State.resetBlock_fh (kept : List Byte) : (s.resetBlock kept).fh = (State.resetWith s.cfg).fh := rfl
@[simp] theorem State.resetBlock_fl (kept : List Byte) : (s.resetBlock kept).fl = (State.resetWith s.cfg).fl := rfl
@[simp] theorem State.resetBlock_fe (kept : List Byte) : (s.resetBlock kept).fe = (State.resetWith s.cfg).fe := rfl
@[simp] theorem State.resetBlock_outv (kept : List Byte) : (s.resetBlock kept).outv = (State.resetWith s.cfg).outv := rfl
@[simp] theorem State.resetBlock_period (kept : List Byte) : (s.resetBlock kept).period = (State.resetWith s.cfg).period := rfl
@[simp] theorem State.resetBlock_drop (kept : List Byte) : (s.resetBlock kept).drop = (State.resetWith s.cfg).drop := rfl
@[simp] theorem State.resetBlock_dnext (kept : List Byte) : (s.resetBlock kept).dnext = (State.resetWith s.cfg).dnext := rfl
@[simp] theorem State.resetBlock_rsp (kept : List Byte) : (s.resetBlock kept).rsp = (State.resetWith s.cfg).rsp := rfl
@[simp] theorem State.resetBlock_rsn (kept : List Byte) : (s.resetBlock kept).rsn = (State.resetWith s.cfg).rsn := rfl
@[simp] theorem State.resetBlock_trace (kept : List Byte) : (s.resetBlock kept).trace = s.trace := rfl
@[simp] theorem State.resetBlock_answer (kept : List Byte) : (s.resetBlock kept).answer = (State.resetWith s.cfg).answer := rfl
@[simp] theorem State.resetBlock_rx (kept : List Byte) : (s.resetBlock kept).rx = kept := rfl
@[simp] theorem State.resetBlock_txReady (kept : List Byte) : (s.resetBlock kept).txReady = s.txReady := rfl
@[simp] theorem State.resetBlock_inputs (kept : List Byte) : (s.resetBlock kept).inputs = s.inputs := rfl
@[simp] theorem State.resetBlock_tick (kept : List Byte) : (s.resetBlock kept).tick = s.tick := rfl

end Sys2Proof.Machine
end

