-- ==== Sys2Proof/Laws/RingBuffer.lean ====
section
/-! SUPPORT. What the RingBuffer's operations can do, on the registers and on the logical queue. -/

namespace Sys2Proof.Machine

variable {s t : State}

/-! ## Each operation once -/

/-- A push stores, reports OVERRUN, or stops on a `head` outside the storage. -/
theorem ringPush_cases (b : Byte) (s : State) :
    (s.count < s.cfg.capacity ∧ s.head < s.cfg.capacity ∧ ringPush b s = .next ((s.storeByte b).reply (.pushed .ok))) ∨
    (s.count < s.cfg.capacity ∧ s.cfg.capacity ≤ s.head ∧ ringPush b s = .fault (.storageIndex s.head)) ∨
    (s.cfg.capacity ≤ s.count ∧ ringPush b s = .next (s.reply (.pushed .overrun))) := by
  unfold ringPush pushStatus
  by_cases h : s.count < s.cfg.capacity <;> by_cases h' : s.head < s.cfg.capacity <;> simp [h, h'] <;> omega

/-- A pop removes the oldest byte, answers the sentinel, or stops on a `tail` outside the storage. -/
theorem ringPop_cases (s : State) :
    (0 < s.count ∧ s.tail < s.cfg.capacity ∧
      ringPop s = .next (s.removeOldest.reply (.popped (s.mem.read s.tail) .ok))) ∨
    (0 < s.count ∧ s.cfg.capacity ≤ s.tail ∧ ringPop s = .fault (.storageIndex s.tail)) ∨
    (s.count = 0 ∧ ringPop s = .next (s.reply (.popped Config.sentinel (emptyPopStatus s.cfg)))) := by
  unfold ringPop State.memRead orFault
  by_cases h : 0 < s.count <;> by_cases h' : s.tail < s.cfg.capacity <;> simp [h, h'] <;> omega

/-- A peek never leaves the storage, whatever the registers hold. -/
theorem peekByte_eq (hN : 0 < s.cfg.capacity) (i : Nat) :
    s.peekByte i =
      .ok (if i < s.count then s.mem.read ((s.tail + i) % s.cfg.capacity) else Config.sentinel) := by
  unfold State.peekByte State.memRead
  have := Nat.mod_lt (s.tail + i) hN
  split <;> simp_all

/-! ## The logical queue -/

theorem q_length (s : State) : s.q.length = s.count := by simp [State.q]

theorem q_getElem? (s : State) (k : Nat) :
    s.q[k]? = if k < s.count then some (s.mem.read ((s.tail + k) % s.cfg.capacity)) else none := by
  unfold State.q
  by_cases h : k < s.count <;> simp [h]

/-- The queue depends on the storage, `tail`, `count` and the capacity alone. -/
theorem q_congr (hm : t.mem = s.mem) (ht : t.tail = s.tail) (hc : t.count = s.count)
    (hN : t.cfg.capacity = s.cfg.capacity) : t.q = s.q := by
  simp only [State.q, hm, ht, hc, hN]

theorem q_of_count_zero (h : s.count = 0) : s.q = [] := by simp [State.q, h]

/-- The index `head` names is that of no live element (R58). -/
theorem head_ne_live {n tl c k : Nat} (hk : k < c) (hc : c < n) : (tl + k) % n ≠ (tl + c) % n := by
  intro h
  have h1 : (tl + k) % n = (tl + c) % n := h
  have h2 : c - k ≡ 0 [MOD n] := by
    have h3 : tl + k + (c - k) ≡ tl + k + 0 [MOD n] := by
      rw [show tl + k + (c - k) = tl + c by omega]; exact h1.symm
    exact Nat.ModEq.add_left_cancel' _ h3
  have h4 := (Nat.modEq_zero_iff_dvd.1 h2)
  have := Nat.le_of_dvd (by omega) h4
  omega

theorem q_storeByte (hi : s.Inv) (hc : s.count < s.cfg.capacity) (b : Byte) : (s.storeByte b).q = s.q ++ [b] := by
  unfold State.q
  simp only [State.storeByte_count, State.storeByte_mem, State.storeByte_tail, State.storeByte_cfg, List.range_succ,
    List.map_append, List.map_cons, List.map_nil, ← hi.headEq, Memory.read_write_self hi.memWf]
  congr 1
  refine List.map_congr_left fun k hk => Memory.read_write_ne _ _ _ ?_
  rw [hi.headEq]
  exact head_ne_live (List.mem_range.1 hk) hc

theorem q_removeOldest (s : State) : s.removeOldest.q = s.q.drop 1 := by
  unfold State.q
  simp only [State.removeOldest_count, State.removeOldest_mem, State.removeOldest_tail, State.removeOldest_cfg]
  apply List.ext_getElem
  · simp
  · intro k h1 h2
    simp only [List.getElem_map, List.getElem_range, List.getElem_drop, Nat.mod_add_mod]
    congr 2
    omega

/-- The oldest byte is the one at `tail`. -/
theorem q_head (hi : s.Inv) (hc : 0 < s.count) : s.q.head? = some (s.mem.read s.tail) := by
  rw [List.head?_eq_getElem?, q_getElem?, if_pos hc, Nat.add_zero, Nat.mod_eq_of_lt hi.tailIn]

theorem peekByte_q (hN : 0 < s.cfg.capacity) (i : Nat) : s.peekByte i = .ok (s.q.getD i Config.sentinel) := by
  rw [peekByte_eq hN, List.getD_eq_getElem?_getD, q_getElem?]
  split <;> simp

/-- The head window is the queue's first five bytes, sentinels past its end. -/
theorem window_eq (hN : 0 < s.cfg.capacity) :
    s.window = .ok
      { b0 := s.q.getD 0 Config.sentinel, b1 := s.q.getD 1 Config.sentinel, b2 := s.q.getD 2 Config.sentinel,
        b3 := s.q.getD 3 Config.sentinel, b4 := s.q.getD 4 Config.sentinel } := by
  simp only [State.window, peekByte_q hN, bind, Except.bind, pure, Except.pure]

/-- A queue of at least five bytes, taken apart. -/
theorem q_five (h : 5 ≤ s.count) : ∃ b0 b1 b2 b3 b4 rest, s.q = b0 :: b1 :: b2 :: b3 :: b4 :: rest := by
  have hl := q_length s
  match hq : s.q with
  | b0 :: b1 :: b2 :: b3 :: b4 :: rest => exact ⟨b0, b1, b2, b3, b4, rest, rfl⟩
  | [] | [_] | [_, _] | [_, _, _] | [_, _, _, _] => simp [hq] at hl; omega

/-- The window of a queue that begins with these five bytes. -/
theorem window_of_q (hN : 0 < s.cfg.capacity) {b0 b1 b2 b3 b4 : Byte} {rest : List Byte}
    (hq : s.q = b0 :: b1 :: b2 :: b3 :: b4 :: rest) : s.window = .ok { b0, b1, b2, b3, b4 } := by
  rw [window_eq hN, hq]; rfl

end Sys2Proof.Machine
end

