-- ==== Sys2Proof/Laws/Ops.lean ====
section
/-! SUPPORT. What each shared operation of the consumer and of the producer can do. -/

namespace Sys2Proof.Machine

variable {s t : State}

theorem thenUpdate_next {o : Host.Outcome State Fault Refusal} {f : State → State} (h : thenUpdate o f = .next t) :
    ∃ u, o = .next u ∧ t = f u := by
  cases o <;> simp_all [thenUpdate]

theorem consumerOnly_next {u : State} (h : consumerOnly s u = .next t) :
    (s.pst = .idle ∧ t = u) ∨ (s.pst = .diag ∧ t = s) := by
  unfold consumerOnly hold at h
  cases hp : s.pst <;> simp_all

theorem transmitOnly_next {u : State} (h : transmitOnly s u = .next t) :
    (s.txReady = true ∧ s.pst = .idle ∧ t = u) ∨ t = s := by
  unfold transmitOnly hold at h
  split at h
  · rcases consumerOnly_next h with ⟨hp, ht⟩ | ⟨-, ht⟩ <;> simp_all
  · simp_all

theorem scanPass_next {k : FrameClass} {w : Frame} (h : scanPass k w s = .next t) :
    (s.scanEnabled ∧ t = (s.latch w).realise (typeCommand k w.b2 w.b3 w.b4)) ∨ (¬ s.scanEnabled ∧ t = s) := by
  unfold scanPass hold at h
  split at h
  next he => exact .inl ⟨he, by simpa using h.symm⟩
  next he => exact .inr ⟨he, by simpa using h.symm⟩

theorem sendResponseByte_next (h : sendResponseByte s = .next t) :
    (∃ b, frameByte s.rsp s.rsn = some b ∧ s.txReady = true ∧ s.pst = .idle ∧ t = (s.emit (.tx b)).advanceResponse) ∨
    t = s := by
  unfold sendResponseByte at h
  split at h
  next b hb => exact (transmitOnly_next h).imp_left fun ⟨h1, h2, h3⟩ => ⟨b, hb, h1, h2, h3⟩
  next => cases h

theorem sendOverrunByte_next (h : sendOverrunByte s = .next t) :
    (s.txReady = true ∧ t = (s.emit (.tx diagOverrun)).handlerReturn) ∨ t = s := by
  unfold sendOverrunByte hold at h
  split at h <;> simp_all

/-- A response frame has a byte at each of the five positions. -/
theorem frameByte_of_lt (f : Frame) {n : Nat} (h : n < 5) : ∃ b, frameByte f n = some b := by
  have : n < f.toList.length := by simpa [Frame.toList] using h
  exact ⟨f.toList[n], by simp [frameByte, this]⟩

theorem frameByte_lt {f : Frame} {n : Nat} {b : Byte} (h : frameByte f n = some b) : n < 5 := by
  have := (List.getElem?_eq_some_iff.1 h).1
  simpa [Frame.toList] using this

/-- In `S_IDLE` the instruction of a window is the scan pass of its class. -/
theorem exec_decodeFrame (w : Frame) (h : s.cst = .idle) :
    exec (decodeFrame w) s = scanPass (classify w.b0 w.b1) w s := by
  obtain ⟨m, c, hh, l, e⟩ := w
  unfold decodeFrame classify
  by_cases hm : m = Config.marker
  · subst hm
    by_cases h1 : c = Config.cmdSetPeriod
    · subst h1; simp [exec, execSetPeriod, h]
    · by_cases h2 : c = Config.cmdOutOn
      · subst h2; simp [exec, execOutOn, h, h1]
      · by_cases h3 : c = Config.cmdOutOff
        · subst h3; simp [exec, execOutOff, h, h1, h2]
        · simp [exec, execInvalid, h1, h2, h3]
  · simp [exec, execDesync, hm]

/-! ## The queue under the updates that do not touch the RingBuffer -/

@[simp] theorem q_emit (s : State) (e : Event) : (s.emit e).q = s.q := rfl
@[simp] theorem q_reply (s : State) (a : Answer) : (s.reply a).q = s.q := rfl
@[simp] theorem q_latch (s : State) (w : Frame) : (s.latch w).q = s.q := rfl
@[simp] theorem q_startDrop (s : State) (n : Nat) (d : DNext) : (s.startDrop n d).q = s.q := rfl
@[simp] theorem q_pendOutput (s : State) (v : Bool) : (s.pendOutput v).q = s.q := rfl
@[simp] theorem q_withPeriod (s : State) (p : U16) : (s.withPeriod p).q = s.q := rfl
@[simp] theorem q_goto (s : State) (c : CState) : (s.goto c).q = s.q := rfl
@[simp] theorem q_startResponse (s : State) (p : U16) : (s.startResponse p).q = s.q := rfl
@[simp] theorem q_advanceResponse (s : State) : s.advanceResponse.q = s.q := rfl
@[simp] theorem q_afterDiscard (s : State) (st : PopStatus) : (s.afterDiscard st).q = s.q := rfl
@[simp] theorem q_handlerEntry (s : State) (b : Byte) (st : PushStatus) : (s.handlerEntry b st).q = s.q := rfl
@[simp] theorem q_handlerReturn (s : State) : s.handlerReturn.q = s.q := rfl
@[simp] theorem q_sample (s : State) : s.sample.q = s.q := rfl
@[simp] theorem q_withInput (s : State) (i : Input) : (s.withInput i).q = s.q := rfl
@[simp] theorem q_resetBlock (s : State) (kept : List Byte) : (s.resetBlock kept).q = [] := rfl

end Sys2Proof.Machine
end

