-- ==== Sys2Proof/Laws/PerInstr.lean ====
section
/-! SUPPORT. Facts about every instruction as syntax, one lemma per constructor. Family `EncodedForm`: the direction and
the width spec/opcode_table.json gives the instruction's row (30_encoding.md R85). -/

namespace Sys2Proof.Laws.EncodedForm

/-- How many bytes travel on the link, in which direction; none for a request inside the block. -/
inductive Form where
  | inward (bytes : Nat)
  | outward (bytes : Nat)
  | inside
deriving DecidableEq, Repr

/-- The form of a code. -/
def formOf : Code → Form
  | .received bytes => .inward bytes.length
  | .transmitted bytes => .outward bytes.length
  | .request _ => .inside

/-- The table's `direction` and `format` columns: FRAME5 is 5 bytes, BYTE is 1, PORT has none. -/
def tableForm : Instr → Form
  | .desync _ _ _ _ _ => .inward 5
  | .setperiod _ _ _ => .inward 5
  | .outon _ _ _ => .inward 5
  | .outoff _ _ _ => .inward 5
  | .invalid _ _ _ _ => .inward 5
  | .response _ => .outward 5
  | .diagE => .outward 1
  | .diagU => .outward 1
  | .push _ => .inside
  | .pop => .inside
  | .peek _ => .inside
  | .count => .inside

/-- The encoding has the row's form. -/
def Statement (i : Instr) : Prop := formOf (encode i) = tableForm i

theorem desync (m c h l e : Byte) : Statement (.desync m c h l e) := rfl
theorem setperiod (h l e : Byte) : Statement (.setperiod h l e) := rfl
theorem outon (h l e : Byte) : Statement (.outon h l e) := rfl
theorem outoff (h l e : Byte) : Statement (.outoff h l e) := rfl
theorem invalid (c h l e : Byte) : Statement (.invalid c h l e) := rfl
theorem response (p : U16) : Statement (.response p) := rfl
theorem diagE : Statement .diagE := rfl
theorem diagU : Statement .diagU := rfl
theorem push (b : Byte) : Statement (.push b) := rfl
theorem pop : Statement .pop := rfl
theorem peek (i : Nat) : Statement (.peek i) := rfl
theorem count : Statement .count := rfl

end Sys2Proof.Laws.EncodedForm
end

