-- ==== Sys2Proof/Laws/Step.lean ====
section
/-! SUPPORT. Everything a step can do, said once: `TurnEffect` lists the outcomes of a turn, and a step is a turn taken
after the environment's draw. -/

namespace Sys2Proof.Machine

/-- `TurnEffect s turn t`: taking `turn` in `s` (its draw taken) may lead to `t`, guards included. -/
inductive TurnEffect (s : State) : Turn → State → Prop where
  /-- No step of the picked agent is enabled. -/
  | holds (turn : Turn) : TurnEffect s turn s
  | stored (b : Byte) (rest : List Byte) (hp : s.pst = .idle) (hrx : s.rx = b :: rest)
      (hc : s.count < s.cfg.capacity) (hh : s.head < s.cfg.capacity) :
      TurnEffect s .accept (((s.storeByte b).reply (.pushed .ok)).handlerEntry b .ok)
  | overran (b : Byte) (rest : List Byte) (hp : s.pst = .idle) (hrx : s.rx = b :: rest)
      (hc : s.cfg.capacity ≤ s.count) :
      TurnEffect s .accept ((s.reply (.pushed .overrun)).handlerEntry b .overrun)
  | reported (hp : s.pst = .diag) (hr : s.txReady = true) :
      TurnEffect s .producer (s.emit (.tx diagOverrun)).handlerReturn
  | scanned (w : Frame) (hp : s.pst = .idle) (hcst : s.cst = .idle) (hc : 5 ≤ s.count) (hw : s.window = .ok w) :
      TurnEffect s .consumer ((s.latch w).realise (typeCommand (classify w.b0 w.b1) w.b2 w.b3 w.b4))
  | calledOutput (hp : s.pst = .idle) (hcst : s.cst = .out) :
      TurnEffect s .consumer ((s.emit (.out s.outv)).startDrop (outputDrop s.cfg) .idle)
  | discarded (hp : s.pst = .idle) (hcst : s.cst = .drop) (hd : s.drop ≠ 0) (hc : 0 < s.count)
      (ht : s.tail < s.cfg.capacity) :
      TurnEffect s .consumer ((s.removeOldest.reply (.popped (s.mem.read s.tail) .ok)).afterDiscard .ok)
  | foundEmpty (hp : s.pst = .idle) (hcst : s.cst = .drop) (hd : s.drop ≠ 0) (hc : s.count = 0) :
      TurnEffect s .consumer
        ((s.reply (.popped Config.sentinel (emptyPopStatus s.cfg))).afterDiscard (emptyPopStatus s.cfg))
  | reportedUnderrun (hp : s.pst = .idle) (hcst : s.cst = .udiag) (hr : s.txReady = true) :
      TurnEffect s .consumer ((s.emit (.tx diagUnderrun)).goto (if s.drop = 0 then s.dnext.toCState else .drop))
  | calledPulse (hp : s.pst = .idle) (hcst : s.cst = .pg) :
      TurnEffect s .consumer ((s.emit (.pg s.period (dutyA s.period) (dutyB s.period))).startResponse s.period)
  | sent (b : Byte) (hp : s.pst = .idle) (hcst : s.cst = .tx) (hr : s.txReady = true)
      (hb : frameByte s.rsp s.rsn = some b) :
      TurnEffect s .consumer (s.emit (.tx b)).advanceResponse
  | reset (kept : List Byte) : TurnEffect s (.reset kept) (s.resetBlock kept)

variable {s t : State}

theorem acceptStep_effect (h : acceptStep s = .next t) : TurnEffect s .accept t := by
  unfold acceptStep hold at h
  split at h
  next b rest hp hrx =>
    obtain ⟨u, hu, rfl⟩ := thenUpdate_next h
    simp only [exec, execPush] at hu
    rcases ringPush_cases b s with ⟨hc, hh, he⟩ | ⟨-, -, he⟩ | ⟨hc, he⟩ <;> rw [he] at hu <;> cases hu
    · rw [show pushStatus s = .ok by simp [pushStatus, hc]]; exact .stored b rest hp hrx hc hh
    · rw [show pushStatus s = .overrun by simp [pushStatus]; omega]; exact .overran b rest hp hrx hc
  next => cases h; exact .holds _

theorem producerStep_effect (h : producerStep s = .next t) : TurnEffect s .producer t := by
  simp only [producerStep, exec, execDiagE, hold] at h
  split at h
  next hp =>
    rcases sendOverrunByte_next h with ⟨hr, rfl⟩ | rfl
    · exact .reported hp hr
    · exact .holds _
  next => cases h; exact .holds _

theorem scanStep_effect (hp : s.pst = .idle) (hcst : s.cst = .idle) (h : scanStep s = .next t) :
    TurnEffect s .consumer t := by
  unfold scanStep hold orFault at h
  split at h
  next hc =>
    split at h
    next w hw =>
      replace h : scanPass (classify w.b0 w.b1) w s = .next t := by rw [← exec_decodeFrame w hcst]; exact h
      rcases scanPass_next h with ⟨-, rfl⟩ | ⟨-, rfl⟩
      · exact .scanned w hp hcst hc hw
      · exact .holds _
    next => cases h
  next => cases h; exact .holds _

theorem discardStep_effect (hp : s.pst = .idle) (hcst : s.cst = .drop) (h : discardStep s = .next t) :
    TurnEffect s .consumer t := by
  unfold discardStep at h
  split at h
  · cases h
  next hd =>
    obtain ⟨u, hu, rfl⟩ := thenUpdate_next h
    simp only [exec, execPop] at hu
    rcases ringPop_cases s with ⟨hc, ht, he⟩ | ⟨-, -, he⟩ | ⟨hc, he⟩ <;> rw [he] at hu <;> cases hu
    · rw [show popStatus s = .ok by simp [popStatus, hc]]; exact .discarded hp hcst hd hc ht
    · rw [show popStatus s = emptyPopStatus s.cfg by simp [popStatus, hc]]; exact .foundEmpty hp hcst hd hc

theorem consumerStep_effect (h : consumerStep s = .next t) : TurnEffect s .consumer t := by
  unfold consumerStep at h
  cases hp : s.pst <;> simp only [hp] at h
  case diag => cases h; exact .holds _
  case idle =>
    cases hcst : s.cst <;> simp only [hcst] at h
    case idle => exact scanStep_effect hp hcst h
    case drop => exact discardStep_effect hp hcst h
    case out =>
      have h' : callOutput s.outv s = .next t := by
        cases ho : s.outv <;> simpa [ho, exec, execOutOn, execOutOff, hcst] using h
      rcases consumerOnly_next h' with ⟨-, rfl⟩ | ⟨-, rfl⟩
      · exact .calledOutput hp hcst
      · exact .holds _
    case udiag =>
      simp only [exec, execDiagU, hcst, if_true] at h
      rcases transmitOnly_next h with ⟨hr, -, rfl⟩ | rfl
      · exact .reportedUnderrun hp hcst hr
      · exact .holds _
    case pg =>
      simp only [exec, execSetPeriod, hcst, if_true] at h
      rcases consumerOnly_next h with ⟨-, rfl⟩ | ⟨-, rfl⟩
      · exact .calledPulse hp hcst
      · exact .holds _
    case tx =>
      simp only [exec, execResponse, hcst] at h
      rcases sendResponseByte_next h with ⟨b, hb, hr, -, rfl⟩ | rfl
      · exact .sent b hp hcst hr hb
      · exact .holds _

/-- A turn that answers a next state has one of the listed effects. -/
theorem takeTurn_effect {turn : Turn} (h : takeTurn s turn = .next t) : TurnEffect s turn t := by
  cases turn with
  | accept => exact acceptStep_effect h
  | producer => exact producerStep_effect h
  | consumer => exact consumerStep_effect h
  | reset kept => cases h; exact .reset kept

/-- A step that answers a next state is a turn's effect after the draw. -/
theorem step_effect (h : step s = .next t) : TurnEffect s.sample s.nextInput.turn t := takeTurn_effect h

/-- With a listed draw, the draw is that one. -/
theorem nextInput_cons (i : Input) (rest : List Input) : ({ s with inputs := i :: rest } : State).nextInput = i := rfl

end Sys2Proof.Machine
end

