-- ==== Sys2Proof/Tests/Slice0.lean ====
section
/-! SUPPORT. The model's own tests, expected results from 95_test_vectors.md and the rules, and for every statement with
hypotheses a concrete state and operands that meet them. -/

namespace Sys2Proof.Tests

open Sys2Proof.Machine

/-! ## States to test on -/

/-- `N = 5`, FAITHFUL, SIGNAL. -/
def c5 : Config := { capacity := 5, policy := .faithful, underrunDiag := .signal }

/-- `N = 3`, as V-R. -/
def c3 : Config := { capacity := 3, policy := .faithful, underrunDiag := .signal }

/-- `q = bs` from index 0, the consumer and the producer idle. -/
def queued (c : Config) (bs : List Byte) : State :=
  let r := bs.foldl (fun (r : Memory × Nat) b => (Memory.write r.1 r.2 b, r.2 + 1)) ([], 0)
  { State.resetWith c with mem := r.1, count := bs.length, head := bs.length % c.capacity }

/-- `SETPERIOD 0x1234` queued (Program 3). -/
def full5 : State := queued c5 [0xFF#8, 0x01#8, 0x12#8, 0x34#8, 0x00#8]

def outState : State := { full5 with cst := .out, outv := true }
def dropState : State := { full5 with cst := .drop, drop := 5, dnext := .pg }
def pgState : State := { State.resetWith c5 with cst := .pg, period := 100#16 }
def txState : State := { State.resetWith c5 with cst := .tx, period := 100#16, rsp := buildResponse 100#16, txReady := true }
def udiagState : State := { State.resetWith c5 with cst := .udiag, drop := 0, dnext := .idle, txReady := true }
def diagState : State := { full5 with pst := .diag, txReady := true }

/-- The next step's draw. -/
def drawn (s : State) (offer : Option Byte) (ready : Bool) (t : Turn) : State :=
  { s with inputs := [{ offer := offer, txReady := ready, turn := t }] }

/-- A part of the next state; none at a fault or a refusal. -/
def after {α : Type} (o : Host.Outcome State Fault Refusal) (f : State → α) : Option α :=
  match o with
  | .next s => some (f s)
  | _ => none

/-- The fault a step stops with. -/
def stops (o : Host.Outcome State Fault Refusal) : Option Fault :=
  match o with
  | .fault r => some r
  | _ => none

/-! ## WellFormed refuses ill-formed terms -/

theorem test_wellFormed_desync_with_marker : (Instr.desync 0xFF#8 0x01#8 0x00#8 0x00#8 0x00#8).wellFormed = false := by decide
theorem test_wellFormed_invalid_with_setperiod : (Instr.invalid 0x01#8 0x00#8 0x00#8 0x00#8).wellFormed = false := by decide
theorem test_wellFormed_invalid_with_outon : (Instr.invalid 0x02#8 0x00#8 0x00#8 0x00#8).wellFormed = false := by decide
theorem test_wellFormed_invalid_with_outoff : (Instr.invalid 0x03#8 0x00#8 0x00#8 0x00#8).wellFormed = false := by decide

/-- R80, each clause: a marker, a command, a mask and a raw data byte that break it, and a frame that meets it. -/
theorem test_senderWellFormed :
    Frame.senderWellFormed ⟨0xFE#8, 0x01#8, 0x00#8, 0x00#8, 0x00#8⟩ = false ∧
    Frame.senderWellFormed ⟨0xFF#8, 0xFF#8, 0x00#8, 0x00#8, 0x00#8⟩ = false ∧
    Frame.senderWellFormed ⟨0xFF#8, 0x01#8, 0x00#8, 0x00#8, 0xFF#8⟩ = false ∧
    Frame.senderWellFormed ⟨0xFF#8, 0x01#8, 0xFF#8, 0x00#8, 0x02#8⟩ = false ∧
    Frame.senderWellFormed ⟨0xFF#8, 0x01#8, 0x00#8, 0xFF#8, 0x01#8⟩ = false ∧
    Frame.senderWellFormed ⟨0xFF#8, 0x01#8, 0xFF#8, 0xFF#8, 0x03#8⟩ = true := by decide

/-! ## Decoding: words written out bit by bit from the table and from R70, R71, R73, R78, R79 -/

theorem test_decode_setperiod :
    decodeTableWord 40 0b1111111100000001000000000110010000000001 = some (.setperiod 0x00#8 0x64#8 0x01#8) := by decide
theorem test_decode_outon :
    decodeTableWord 40 0b1111111100000010000000000000000010101010 = some (.outon 0x00#8 0x00#8 0xAA#8) := by decide
theorem test_decode_outoff :
    decodeTableWord 40 0b1111111100000011000100010010001000110011 = some (.outoff 0x11#8 0x22#8 0x33#8) := by decide
theorem test_decode_invalid :
    decodeTableWord 40 0b1111111110000000000100100011010001010110 = some (.invalid 0x80#8 0x12#8 0x34#8 0x56#8) := by decide
theorem test_decode_desync :
    decodeTableWord 40 0b1111111000000001000000000110010000000000 = some (.desync 0xFE#8 0x01#8 0x00#8 0x64#8 0x00#8) := by decide
theorem test_decode_diag :
    decodeTableWord 8 0b01000101 = some .diagE ∧ decodeTableWord 8 0b01010101 = some .diagU := by decide
theorem test_decode_response :
    (decode (.transmitted [0xFF#8, 0x02#8, 0x12#8, 0xFF#8, 0x02#8])).toOption = some (.response 0x12FF#16) := by decide
theorem test_decode_requests :
    decode (.request (.push 0xA1#8)) = .ok (.push 0xA1#8) ∧ decode (.request .pop) = .ok .pop ∧
    decode (.request (.peek 2)) = .ok (.peek 2) ∧ decode (.request .count) = .ok .count := ⟨rfl, rfl, rfl, rfl⟩

/-- R78: bits 7 to 2 of a response's mask are 0, and its low bits agree with its bytes; R79; R81. -/
theorem test_decode_rejects :
    (decode (.transmitted [0xFF#8, 0x02#8, 0x00#8, 0x64#8, 0x04#8])).toOption = none ∧
    (decode (.transmitted [0xFF#8, 0x02#8, 0x00#8, 0x64#8, 0x01#8])).toOption = none ∧
    (decode (.transmitted [0x46#8])).toOption = none ∧ (decode (.received [0xFF#8, 0x01#8])).toOption = none := by decide

/-- R83: the items' bytes (Program 5, Program 1). -/
theorem test_expand :
    (StreamItem.setPeriod 0x00FF#16).expand = [0xFF#8, 0x01#8, 0x00#8, 0xFF#8, 0x02#8] ∧
    (StreamItem.setPeriodStuffed 0x00FF#16).expand = [0xFF#8, 0x01#8, 0x00#8, 0x00#8, 0x02#8] ∧
    StreamItem.outOn.expand = [0xFF#8, 0x02#8, 0x00#8, 0x00#8, 0x00#8] := by decide

/-! ## Operands: V-P, V-D, V-E -/

theorem test_decodePeriod :
    decodePeriod 0x00#8 0x64#8 0x01#8 = 0xFF64#16 ∧ decodePeriod 0x00#8 0x64#8 0x02#8 = 0x00FF#16 ∧
    decodePeriod 0x12#8 0x34#8 0xFC#8 = 0x1234#16 ∧ decodePeriod 0xAB#8 0xCD#8 0x01#8 = 0xFFCD#16 := by decide
theorem test_duty :
    (dutyA 65535#16, dutyB 65535#16) = (32767#16, 16383#16) ∧ (dutyA 7#16, dutyB 7#16) = (3#16, 1#16) := by decide
theorem test_buildResponse :
    (buildResponse 0xFF64#16).toList = [0xFF#8, 0x02#8, 0xFF#8, 0x64#8, 0x01#8] ∧
    (buildResponse 0x1234#16).toList = [0xFF#8, 0x02#8, 0x12#8, 0x34#8, 0x00#8] := by decide

/-! ## The RingBuffer: V-R -/

/-- V-R row 7: the push that wraps; rows 4 and 12 are the two statuses. -/
theorem test_push_wraps :
    after (exec (.push 0xD4#8) { queued c3 [0xA1#8, 0xB2#8, 0xC3#8] with tail := 1, count := 2 })
      (fun t => (t.q, t.count, t.head, t.tail, t.answer)) = some ([0xB2#8, 0xC3#8, 0xD4#8], 3, 1, 1, .pushed .ok) := by decide
theorem test_push_overrun :
    after (exec (.push 0xD4#8) (queued c3 [0xA1#8, 0xB2#8, 0xC3#8])) (fun t => (t.q, t.head, t.answer)) =
      some ([0xA1#8, 0xB2#8, 0xC3#8], 0, .pushed .overrun) := by decide
theorem test_pop_oldest :
    after (exec .pop (queued c3 [0xA1#8, 0xB2#8, 0xC3#8])) (fun t => (t.q, t.head, t.tail, t.answer)) =
      some ([0xB2#8, 0xC3#8], 0, 1, .popped 0xA1#8 .ok) := by decide
theorem test_pop_empty_variants :
    after (exec .pop (State.resetWith c3)) (·.answer) = some (.popped 0x00#8 .underrun) ∧
    after (exec .pop (State.resetWith { c3 with underrunDiag := .silent })) (·.answer) = some (.popped 0x00#8 .ok) := by decide
theorem test_peek :
    after (exec (.peek 2) (queued c3 [0xA1#8, 0xB2#8, 0xC3#8])) (·.answer) = some (.peeked 0xC3#8) ∧
    after (exec (.peek 3) (queued c3 [0xA1#8, 0xB2#8, 0xC3#8])) (·.answer) = some (.peeked 0x00#8) := by decide

/-- V-R row 13: a stale byte of the storage is not returned. -/
theorem test_peek_stale :
    after (exec (.peek 0) { queued c3 [0xD4#8] with count := 0, tail := 1 }) (·.answer) = some (.peeked 0x00#8) := by decide
theorem test_count : after (exec .count (queued c3 [0xA1#8])) (·.answer) = some (.counted 1) := by decide

/-- Writing the unlisted value removes the entry, so equal storages are equal lists. -/
theorem test_write_unlisted : Memory.write (Memory.write [] 4 0x11#8) 4 0x00#8 = [] := by decide

/-! ## The frames: V-C, V-S, S6 to S9 -/

theorem test_desync : after (exec (.desync 0x10#8 0xFF#8 0x01#8 0x00#8 0x64#8)
    (queued c5 [0x10#8, 0xFF#8, 0x01#8, 0x00#8, 0x64#8])) (fun t => (t.cst, t.drop, t.dnext, t.trace)) =
      some (.drop, 1, .idle, []) := by decide
theorem test_invalid : after (exec (.invalid 0xFF#8 0xFF#8 0xFF#8 0xFF#8)
    (queued c5 [0xFF#8, 0xFF#8, 0xFF#8, 0xFF#8, 0xFF#8])) (fun t => (t.cst, t.drop, t.dnext, t.fc)) =
      some (.drop, 1, .idle, 0xFF#8) := by decide
theorem test_outon_call_faithful : after (exec (.outon 0x00#8 0x00#8 0x00#8) outState)
    (fun t => (t.trace, t.cst, t.drop, t.count)) = some ([.out true], .drop, 1, 5) := by decide
theorem test_outon_call_uniform :
    after (exec (.outon 0x00#8 0x00#8 0x00#8) { outState with cfg := { c5 with policy := .uniform } })
      (fun t => (t.trace, t.drop)) = some ([.out true], 5) := by decide
theorem test_outoff_recognised : after (exec (.outoff 0x11#8 0x22#8 0x33#8) full5)
    (fun t => (t.cst, t.outv, t.trace)) = some (.out, false, []) := by decide
theorem test_outoff_call : after (exec (.outoff 0x11#8 0x22#8 0x33#8) outState) (·.trace) = some [.out false] := by decide
theorem test_setperiod_recognised : after (exec (.setperiod 0x12#8 0x34#8 0xFE#8) full5)
    (fun t => (t.period, t.drop, t.dnext, t.cst)) = some (0x12FF#16, 5, .pg, .drop) := by decide
theorem test_setperiod_call : after (exec (.setperiod 0x00#8 0x64#8 0x00#8) pgState)
    (fun t => (t.trace, t.rsp.toList, t.rsn, t.cst)) =
      some ([.pg 100#16 50#16 25#16], [0xFF#8, 0x02#8, 0x00#8, 0x64#8, 0x00#8], 0, .tx) := by decide

/-! ## What the block transmits: V-E, V-X -/

theorem test_response_third_byte : after (exec (.response 100#16) { txState with rsn := 3 })
    (fun t => (t.trace, t.rsn, t.cst)) = some ([.tx 0x64#8], 4, .tx) := by decide
theorem test_response_last_byte : after (exec (.response 100#16) { txState with rsn := 4 })
    (fun t => (t.trace, t.rsn, t.cst)) = some ([.tx 0x00#8], 5, .idle) := by decide
theorem test_diagE : after (exec .diagE diagState) (fun t => (t.trace, t.pst, t.count)) =
    some ([.tx 0x45#8], .idle, 5) := by decide
theorem test_diagE_waits : after (exec .diagE { diagState with txReady := false }) (fun t => (t.trace, t.pst)) =
    some ([], .diag) := by decide
theorem test_diagU : after (exec .diagU udiagState) (fun t => (t.trace, t.cst)) = some ([.tx 0x55#8], .idle) := by decide
theorem test_diagU_more_to_discard : after (exec .diagU { udiagState with drop := 2 }) (·.cst) = some .drop := by decide

/-! ## Single steps -/

/-- X1: the byte that overruns. -/
theorem test_step_overrun : after (step (drawn full5 (some 0xAA#8) true .accept)) (fun t => (t.trace, t.pst, t.rx, t.count)) =
    some ([.rx 0xAA#8 .overrun], .diag, [], 5) := by decide
theorem test_step_accept : after (step (drawn (State.resetWith c5) (some 0xFF#8) false .accept))
    (fun t => (t.trace, t.pst, t.q)) = some ([.rx 0xFF#8 .ok], .idle, [0xFF#8]) := by decide

/-- While the handler runs, an offered byte stays offered (R203). -/
theorem test_step_no_nested_accept : after (step (drawn diagState (some 0x07#8) true .accept)) (fun t => (t.pst, t.rx, t.trace)) =
    some (.diag, [0x07#8], []) := by decide
theorem test_step_discard : after (step (drawn dropState none false .consumer)) (fun t => (t.q, t.drop, t.cst)) =
    some ([0x01#8, 0x12#8, 0x34#8, 0x00#8], 4, .drop) := by decide
theorem test_step_last_discard : after (step (drawn { dropState with drop := 1 } none false .consumer)) (·.cst) =
    some .pg := by decide

/-- R128 outside any run: a discard that finds the queue empty, by variant. -/
theorem test_step_discard_empty :
    after (step (drawn { dropState with count := 0, head := 0 } none false .consumer)) (fun t => (t.cst, t.drop)) =
      some (.udiag, 4) ∧
    after (step (drawn { dropState with count := 0, head := 0, cfg := { c5 with underrunDiag := .silent } } none false
      .consumer)) (fun t => (t.cst, t.drop)) = some (.drop, 4) := by decide
theorem test_step_reset_abandons : after (step (drawn { txState with rsn := 2, trace := [.tx 0xFF#8] } none true (.reset [0x01#8])))
    (fun t => (t.cst, t.rsn, t.trace, t.rx)) = some (.idle, 0, [.tx 0xFF#8], [0x01#8]) := by decide
theorem test_fetch_setperiod : after (step (State.reset.withFetchWord 40 0xFF01006401))
    (fun t => (t.cst, t.period, t.drop, t.dnext)) = some (.drop, 0xFF64#16, 5, .pg) := by decide
theorem test_fetch_diag :
    after (step (State.reset.withFetchWord 8 0x45)) (·.trace) = some [.tx 0x45#8] ∧
    after (step (State.reset.withFetchWord 8 0x55)) (·.trace) = some [.tx 0x55#8] := by decide

/-- The faults, in states no run reaches (log entry 11). -/
theorem test_faults :
    stops (exec (.push 0x00#8) { State.resetWith c5 with head := 5 }) = some (.storageIndex 5) ∧
    stops (step (drawn { dropState with drop := 0 } none true .consumer)) = some .dropUnderflow ∧
    stops (exec (.response 100#16) { txState with rsn := 5 }) = some (.responseIndex 5) := by decide

/-- R139 on S9 and on Q4: the reference algorithm's events and what it leaves. -/
theorem test_pollLoop :
    pollLoop c5 6 [0x10#8, 0xFF#8, 0x01#8, 0x00#8, 0x64#8, 0x00#8] = (periodEvents 100#16, []) ∧
    pollLoop c5 9 [0xFF#8, 0x01#8, 0x00#8, 0x64#8, 0xFF#8, 0x02#8, 0x00#8, 0x00#8, 0x00#8] =
      (periodEvents 65535#16, [0x02#8, 0x00#8, 0x00#8, 0x00#8]) := by decide

/-! ## The invariant holds of the states above -/

theorem inv_empty : (State.resetWith c5).Inv := by constructor <;> decide
theorem inv_full5 : full5.Inv := by constructor <;> decide
theorem inv_out : outState.Inv := by constructor <;> decide
theorem inv_drop : dropState.Inv := by constructor <;> decide
theorem inv_pg : pgState.Inv := by constructor <;> decide
theorem inv_tx : txState.Inv := by constructor <;> decide
theorem inv_udiag : udiagState.Inv := by constructor <;> decide
theorem inv_diag : diagState.Inv := by constructor <;> decide
theorem inv_one : (queued c5 [0x10#8]).Inv := by constructor <;> decide

/-- A draw changes nothing the invariant speaks of. -/
theorem inv_drawn {s : State} (h : s.Inv) (o : Option Byte) (r : Bool) (t : Turn) : (drawn s o r t).Inv :=
  ⟨h.legal, h.memWf, h.memInside, h.headIn, h.tailIn, h.countLe, h.headEq, h.dropLe, h.rsnLe, h.outQueued, h.dropQueued,
    h.udiagQueued, h.sending⟩

/-! ## Witnesses: every statement's hypotheses can be met, clause by clause -/

theorem witness_DecodeAfterEncode :
    (Instr.desync 0xFE#8 0x01#8 0x00#8 0x00#8 0x00#8).wellFormed = true ∧
    (Instr.invalid 0x00#8 0x00#8 0x00#8 0x00#8).wellFormed = true ∧
    (Instr.invalid 0x04#8 0x00#8 0x00#8 0x00#8).wellFormed = true := by decide

theorem witness_EveryWindowStandsForOneInstruction :
    (Instr.setperiod 0x00#8 0x64#8 0x00#8).wellFormed = true ∧
    encode (.setperiod 0x00#8 0x64#8 0x00#8) = .received (Frame.toList ⟨0xFF#8, 0x01#8, 0x00#8, 0x64#8, 0x00#8⟩) := by decide

theorem witness_ClassOfAHeadWindow : (0xFE#8 : Byte) ≠ 0xFF#8 ∧
    (0x00#8 : Byte) ≠ 0x01#8 ∧ (0x00#8 : Byte) ≠ 0x02#8 ∧ (0x00#8 : Byte) ≠ 0x03#8 ∧
    (0x04#8 : Byte) ≠ 0x01#8 ∧ (0x04#8 : Byte) ≠ 0x02#8 ∧ (0x04#8 : Byte) ≠ 0x03#8 := by decide

theorem witness_TransmittedFramesAreResponses :
    decode (.transmitted (Frame.toList ⟨0xFF#8, 0x02#8, 0xFF#8, 0x64#8, 0x01#8⟩)) = .ok (.response 0xFF64#16) := by rfl

theorem witness_RawAndEscapedMarkersDecodeAlike : (0xFE#8 : Byte) ≠ 0xFF#8 := by decide

theorem witness_ResponseFrameBytes : 2 ≤ 2 ∧ 2 ≤ 7 := by decide

theorem witness_PushStoresOrOverruns :
    ((State.resetWith c5).count < (State.resetWith c5).cfg.capacity ∧
      (State.resetWith c5).head < (State.resetWith c5).cfg.capacity) ∧ full5.cfg.capacity ≤ full5.count := by decide

theorem witness_PopRemovesOldestOrAnswersSentinel :
    (0 < full5.count ∧ full5.tail < full5.cfg.capacity) ∧
    ((State.resetWith c5).count = 0 ∧ (State.resetWith c5).cfg.underrunDiag = .signal) ∧
    ((State.resetWith { c5 with underrunDiag := .silent }).count = 0 ∧
      (State.resetWith { c5 with underrunDiag := .silent }).cfg.underrunDiag = .silent) := by decide

theorem witness_PeekAnswersQueueOrSentinel :
    0 < full5.cfg.capacity ∧ 4 < full5.q.length ∧ full5.count ≤ 5 := by decide

theorem witness_QueueUnderPushAndPop :
    ((State.resetWith c5).Inv ∧ (State.resetWith c5).count < (State.resetWith c5).cfg.capacity) ∧
    (full5.Inv ∧ full5.count = full5.cfg.capacity) := ⟨⟨inv_empty, by decide⟩, inv_full5, by decide⟩

theorem witness_PushThenPopReturnsOldest :
    ((State.resetWith c5).Inv ∧ (State.resetWith c5).count < (State.resetWith c5).cfg.capacity ∧
      (State.resetWith c5).q = []) ∧
    ((queued c5 [0x10#8]).Inv ∧ (queued c5 [0x10#8]).count < (queued c5 [0x10#8]).cfg.capacity ∧
      (queued c5 [0x10#8]).q = 0x10#8 :: []) :=
  ⟨⟨inv_empty, by decide, by decide⟩, inv_one, by decide, by decide⟩

theorem witness_PoppedInPushedOrder :
    (State.resetWith c5).Inv ∧ (State.resetWith c5).count = 0 ∧
    [0x0A#8, 0x0B#8, 0x0C#8, 0x0D#8, (0x0E#8 : Byte)].length ≤ (State.resetWith c5).cfg.capacity :=
  ⟨inv_empty, by decide, by decide⟩

theorem witness_PushLeavesLiveBytes :
    (queued c5 [0x10#8]).Inv ∧ (∃ t, exec (.push 0x5A#8) (queued c5 [0x10#8]) = .next t) ∧
    (queued c5 [0x10#8]).count < (queued c5 [0x10#8]).cfg.capacity ∧ 0 < (queued c5 [0x10#8]).count :=
  ⟨inv_one, ⟨_, rfl⟩, by decide, by decide⟩

theorem witness_PushLeavesHeadWindow :
    full5.Inv ∧ 5 ≤ full5.count ∧ ∃ t, exec (.push 0x5A#8) full5 = .next t := ⟨inv_full5, by decide, _, rfl⟩

theorem witness_RingOperationsFrame :
    (∃ t, exec (.push 0x5A#8) (State.resetWith c5) = .next t) ∧
    ((∃ t, exec (.push 0x5A#8) full5 = .next t) ∧ full5.cfg.capacity ≤ full5.count) ∧
    (∃ t, exec .pop full5 = .next t) ∧ (∃ t, exec (.peek 4) full5 = .next t) ∧ ∃ t, exec .count full5 = .next t :=
  ⟨⟨_, rfl⟩, ⟨⟨_, rfl⟩, by decide⟩, ⟨_, rfl⟩, ⟨_, rfl⟩, _, rfl⟩

def desyncState : State := queued c5 [0x10#8, 0xFF#8, 0x01#8, 0x00#8, 0x64#8]
def invalidState : State := queued c5 [0xFF#8, 0x04#8, 0x00#8, 0x00#8, 0x00#8]
def outonState : State := queued c5 [0xFF#8, 0x02#8, 0x00#8, 0x00#8, 0x00#8]
def outoffState : State := queued c5 [0xFF#8, 0x03#8, 0x11#8, 0x22#8, 0x33#8]
theorem inv_desync : desyncState.Inv := by constructor <;> decide
theorem inv_invalid : invalidState.Inv := by constructor <;> decide
theorem inv_outon : outonState.Inv := by constructor <;> decide
theorem inv_outoff : outoffState.Inv := by constructor <;> decide

theorem witness_FailedMatchDiscardsOneByte :
    (desyncState.Inv ∧ desyncState.pst = .idle ∧ desyncState.cst = .idle ∧ 5 ≤ desyncState.count ∧
      desyncState.q = [0x10#8, 0xFF#8, 0x01#8, 0x00#8, 0x64#8] ∧ classify 0x10#8 0xFF#8 = .desync) ∧
    (invalidState.Inv ∧ invalidState.pst = .idle ∧ invalidState.cst = .idle ∧
      invalidState.q = [0xFF#8, 0x04#8, 0x00#8, 0x00#8, 0x00#8] ∧ classify 0xFF#8 0x04#8 = .invalid) :=
  ⟨⟨inv_desync, by decide⟩, inv_invalid, by decide⟩

theorem witness_recognition : full5.pst = .idle ∧ full5.cst = .idle ∧ 5 ≤ full5.count ∧ full5.count = 5 := by decide
theorem witness_SetOutputCall :
    (outState.Inv ∧ outState.pst = .idle ∧ outState.cst = .out ∧ outState.cfg.policy = .faithful) ∧
    (let s : State := { outState with cfg := { c5 with policy := .uniform } };
      s.Inv ∧ s.pst = .idle ∧ s.cst = .out ∧ s.cfg.policy = .uniform) :=
  ⟨⟨inv_out, by decide⟩, by constructor <;> decide, by decide⟩
theorem witness_SetPeriodRecognition_discards :
    dropState.Inv ∧ dropState.pst = .idle ∧ dropState.cst = .drop ∧ dropState.drop = 5 ∧ dropState.dnext = .pg :=
  ⟨inv_drop, by decide⟩
theorem witness_SetPeriodCall : pgState.pst = .idle ∧ pgState.cst = .pg := by decide

theorem witness_FramesWaitForTheirState :
    diagState.pst = .diag ∧ (dropState.cst ≠ .idle ∧ dropState.cst ≠ .out ∧ dropState.cst ≠ .pg) ∧
    ((queued c5 [0xFF#8, 0x01#8, 0x00#8, 0x64#8]).count < 5 ∧
      (queued c5 [0xFF#8, 0x01#8, 0x00#8, 0x64#8]).cst ≠ .out) := by decide

theorem witness_ReceivedFramesFrame :
    (∃ t, exec (.desync 0x10#8 0xFF#8 0x01#8 0x00#8 0x64#8) desyncState = .next t) ∧
    (∃ t, exec (.invalid 0x04#8 0x00#8 0x00#8 0x00#8) invalidState = .next t) ∧
    (∃ t, exec (.outon 0x00#8 0x00#8 0x00#8) outState = .next t) ∧
    (∃ t, exec (.outoff 0x11#8 0x22#8 0x33#8) outoffState = .next t) ∧
    ∃ t, exec (.setperiod 0x00#8 0x64#8 0x00#8) pgState = .next t :=
  ⟨⟨_, rfl⟩, ⟨_, rfl⟩, ⟨_, rfl⟩, ⟨_, rfl⟩, _, rfl⟩

theorem witness_ResponseSentByteByByte :
    (pgState.pst = .idle ∧ pgState.cst = .pg) ∧
    (txState.pst = .idle ∧ txState.cst = .tx ∧ txState.txReady = true ∧ txState.rsn = 0 ∧
      txState.rsp.toList[txState.rsn]? = some 0xFF#8) ∧
    ({ txState with rsn := 4 } : State).rsp.toList[4]? = some 0x00#8 := by decide

theorem witness_OverrunDiagnosticSent : diagState.pst = .diag ∧ diagState.txReady = true := by decide
theorem witness_UnderrunDiagnosticSent :
    udiagState.pst = .idle ∧ udiagState.cst = .udiag ∧ udiagState.txReady = true := by decide
theorem witness_TransmissionsWaitForReady :
    ({ txState with txReady := false, rsn := 4 } : State).txReady = false ∧
    ({ txState with txReady := false, rsn := 4 } : State).cst = .tx ∧
    ({ txState with txReady := false, rsn := 4 } : State).rsn ≤ 4 := by decide
theorem witness_TransmissionsFrame :
    ((∃ t, exec (.response 100#16) txState = .next t) ∧ txState.cst = .tx) ∧ (∃ t, exec .diagE diagState = .next t) ∧
    ∃ t, exec .diagU udiagState = .next t := ⟨⟨⟨_, rfl⟩, rfl⟩, ⟨_, rfl⟩, _, rfl⟩

theorem witness_StepRunsTheInstruction :
    (let s := drawn full5 none false .consumer;
      s.nextInput.turn = .consumer ∧ s.pst = .idle ∧ s.cst = .idle ∧ 5 ≤ s.count ∧
      s.sample.window = .ok ⟨0xFF#8, 0x01#8, 0x12#8, 0x34#8, 0x00#8⟩ ∧
      decode (.received (Frame.toList ⟨0xFF#8, 0x01#8, 0x12#8, 0x34#8, 0x00#8⟩)) =
        .ok (.setperiod 0x12#8 0x34#8 0x00#8)) ∧
    (dropState.cst = .drop ∧ dropState.drop ≠ 0 ∧ dropState.pst = .idle) ∧
    ((drawn diagState none true .producer).nextInput.turn = .producer) ∧
    ((drawn full5 (some 0xAA#8) false .accept).nextInput.turn = .accept ∧ full5.pst = .idle ∧
      (drawn full5 (some 0xAA#8) false .accept).sample.rx = 0xAA#8 :: []) :=
  ⟨⟨rfl, rfl, rfl, by decide, rfl, rfl⟩, by decide, rfl, rfl, rfl, rfl⟩

theorem witness_StepRunsTheInstruction_later_states :
    (outState.cst = .out ∧ udiagState.cst = .udiag ∧ pgState.cst = .pg ∧ txState.cst = .tx) ∧
    (outState.pst = .idle ∧ udiagState.pst = .idle ∧ pgState.pst = .idle ∧ txState.pst = .idle) := by decide

theorem witness_AcceptedByteStep :
    (let s := drawn (State.resetWith c5) (some 0xFF#8) false .accept;
      s.nextInput.turn = .accept ∧ s.pst = .idle ∧ s.sample.rx = 0xFF#8 :: [] ∧ s.count < s.cfg.capacity ∧
      s.head < s.cfg.capacity) ∧
    (let s := drawn full5 (some 0xAA#8) false .accept;
      s.nextInput.turn = .accept ∧ s.pst = .idle ∧ s.sample.rx = 0xAA#8 :: [] ∧ s.cfg.capacity ≤ s.count) := by decide

theorem witness_ArrivalLeavesConsumer :
    (drawn full5 (some 0xAA#8) false .accept).nextInput.turn = .accept ∧
    ∃ t, step (drawn full5 (some 0xAA#8) false .accept) = .next t := ⟨rfl, _, rfl⟩

theorem witness_HandlerRunsToCompletion :
    diagState.pst = .diag ∧ (drawn diagState none true .consumer).nextInput.noReset = true ∧
    (drawn diagState none true .consumer).nextInput.turn ≠ .producer ∧
    (drawn diagState none false .producer).nextInput.txReady = false := by decide

theorem witness_HandlerReturnsToConsumer :
    ((drawn diagState none true .producer).nextInput.turn = .producer ∧ diagState.pst = .diag ∧
      (drawn diagState none true .producer).nextInput.txReady = true) ∧
    ((drawn diagState none true .accept).nextInput.turn = .accept) ∧
    (let s := drawn (queued c5 [0x10#8]) (some 0x11#8) true .accept;
      s.nextInput.turn = .accept ∧ s.pst = .idle ∧ s.count < s.cfg.capacity ∧ ∃ t, step s = .next t) :=
  ⟨⟨rfl, rfl, rfl⟩, rfl, rfl, rfl, by decide, _, rfl⟩

theorem witness_DiscardStep :
    ((drawn dropState none true .consumer).Inv ∧ (drawn dropState none true .consumer).nextInput.turn = .consumer ∧
      dropState.pst = .idle ∧ dropState.cst = .drop ∧ 1 < dropState.drop) ∧
    ({ dropState with drop := 1 } : State).dnext = .pg ∧
    ({ dropState with drop := 1, dnext := .idle } : State).dnext = .idle :=
  ⟨⟨inv_drawn inv_drop _ _ _, rfl, rfl, rfl, by decide⟩, rfl, rfl⟩

/-- R128 and R178: the queue empty, one discard left and more than one. -/
def emptyDrop (u : UnderrunDiag) (n : Nat) (d : DNext) : State :=
  drawn { State.resetWith { c5 with underrunDiag := u } with cst := .drop, drop := n, dnext := d } none false .consumer
theorem witness_DiscardStep_empty :
    (∀ u n d, (emptyDrop u n d).nextInput.turn = .consumer ∧ (emptyDrop u n d).pst = .idle ∧
      (emptyDrop u n d).cst = .drop ∧ (emptyDrop u n d).count = 0 ∧ (emptyDrop u n d).cfg.underrunDiag = u) ∧
    0 < (emptyDrop .signal 1 .idle).drop ∧ 0 < (emptyDrop .silent 2 .pg).drop ∧
    after (step (emptyDrop .signal 1 .idle)) (·.cst) = some .udiag ∧
    after (step (emptyDrop .silent 1 .idle)) (·.cst) = some .idle ∧
    after (step (emptyDrop .silent 1 .pg)) (·.cst) = some .pg ∧
    after (step (emptyDrop .silent 2 .pg)) (·.cst) = some .drop :=
  ⟨fun _ _ _ => ⟨rfl, rfl, rfl, rfl, rfl⟩, by decide, by decide, by decide, by decide, by decide, by decide⟩
theorem witness_DiscardStep_any_state :
    (drawn dropState none true .consumer).nextInput.turn = .consumer ∧ 0 < dropState.drop ∧ 0 < dropState.count ∧
    dropState.tail < dropState.cfg.capacity := by decide

theorem witness_CoreNeverUnderruns :
    (drawn dropState none true .consumer).Inv ∧ dropState.cst ≠ .udiag ∧
    after (step (drawn dropState none true .consumer)) (fun t => (t.cst, t.count)) = some (.drop, 4) :=
  ⟨inv_drawn inv_drop _ _ _, by decide, by decide⟩

theorem witness_ConsumerHoldsExactlyWhen :
    (drawn txState none false .consumer).Inv ∧ (drawn txState none false .consumer).nextInput.turn = .consumer ∧
    (drawn full5 none true .consumer).Inv := ⟨inv_drawn inv_tx _ _ _, rfl, inv_drawn inv_full5 _ _ _⟩

theorem witness_DisabledTurnsHold :
    ((drawn full5 none true .accept).Inv ∧ ¬ (drawn full5 none true .accept).sample.acceptEnabled) ∧
    ((drawn full5 none true .producer).Inv ∧ ¬ (drawn full5 none true .producer).sample.producerEnabled) ∧
    ((drawn txState none false .consumer).Inv ∧ ¬ (drawn txState none false .consumer).sample.consumerEnabled) :=
  ⟨⟨inv_drawn inv_full5 _ _ _, by decide⟩, ⟨inv_drawn inv_full5 _ _ _, by decide⟩, inv_drawn inv_tx _ _ _, by decide⟩

theorem witness_steps :
    (drawn dropState none true .consumer).Inv ∧ (∃ t, step (drawn dropState none true .consumer) = .next t) ∧
    (drawn dropState none true .consumer).nextInput.noReset = true := ⟨inv_drawn inv_drop _ _ _, ⟨_, rfl⟩, rfl⟩

theorem witness_ResetInputAbandonsWork :
    (drawn txState none true (.reset [0x01#8])).nextInput.turn = .reset [0x01#8] := rfl

theorem witness_legal : ({ capacity := 1, policy := .uniform, underrunDiag := .silent } : Config).legal ∧ c5.legal := by decide

theorem witness_NoDispatchBelowFrameLength :
    ({ c5 with capacity := 4 } : Config).legal ∧ ({ c5 with capacity := 4 } : Config).capacity < 5 := by decide

theorem witness_FifoOrderOverRuns :
    dropState.Inv ∧ (∀ i ∈ consumerTurns 1, i.noReset = true) ∧ ∃ t, runInputs dropState (consumerTurns 1) = .next t :=
  ⟨inv_drop, by decide, _, rfl⟩

theorem witness_NetEffectOfAScanPass :
    (full5.Inv ∧ full5.pst = .idle ∧ full5.cst = .idle ∧ full5.q = [0xFF#8, 0x01#8, 0x12#8, 0x34#8, 0x00#8] ∧
      classify 0xFF#8 0x01#8 = .setperiod) ∧
    (outonState.Inv ∧ outonState.pst = .idle ∧ outonState.cst = .idle ∧
      outonState.q = [0xFF#8, 0x02#8, 0x00#8, 0x00#8, 0x00#8] ∧ classify 0xFF#8 0x02#8 = .outon) ∧
    (outoffState.Inv ∧ outoffState.pst = .idle ∧ outoffState.cst = .idle ∧
      outoffState.q = [0xFF#8, 0x03#8, 0x11#8, 0x22#8, 0x33#8] ∧ classify 0xFF#8 0x03#8 = .outoff) ∧
    desyncState.Inv ∧ invalidState.Inv :=
  ⟨⟨inv_full5, by decide⟩, ⟨inv_outon, by decide⟩, ⟨inv_outoff, by decide⟩, inv_desync, inv_invalid⟩

theorem witness_ScanMakesProgress : full5.Inv ∧ full5.pst = .idle ∧ full5.cst = .idle ∧ 5 ≤ full5.count :=
  ⟨inv_full5, by decide⟩

theorem witness_TransmitStallHolds :
    txState.Inv ∧ txState.cst = .tx ∧ (udiagState.Inv ∧ udiagState.cst = .udiag) ∧
    ∀ i ∈ [({ offer := some 0x01#8, txReady := false, turn := .accept } : Input)], i.txReady = false ∧ i.noReset = true :=
  ⟨inv_tx, rfl, ⟨inv_udiag, rfl⟩, by decide⟩

theorem witness_ConsumerPerformsReferenceAlgorithm : full5.Inv ∧ full5.pst = .idle ∧ full5.cst = .idle :=
  ⟨inv_full5, rfl, rfl⟩

/-- Two schedules of one byte: accepted at once, and one idle consumer turn later. -/
theorem witness_EffectsIndependentOfSchedule :
    let s := State.resetWith c5
    let is : List Input := [{ offer := some 0x10#8, txReady := true, turn := .accept }]
    let js : List Input := [{ offer := some 0x10#8, txReady := false, turn := .consumer },
      { offer := none, txReady := true, turn := .accept }]
    s.Inv ∧ s.pst = .idle ∧ (∀ i ∈ is, i.noReset = true) ∧ (∀ j ∈ js, j.noReset = true) ∧
    offeredBytes is = offeredBytes js ∧
    (∃ t, runInputs s is = .next t ∧ t.quiescent ∧ t.rx = [] ∧ noOverrun (t.trace.drop s.trace.length) = true) ∧
    ∃ u, runInputs s js = .next u ∧ u.quiescent ∧ u.rx = [] ∧ noOverrun (u.trace.drop s.trace.length) = true :=
  ⟨inv_empty, rfl, by decide, by decide, by decide, ⟨_, rfl, by decide, rfl, by decide⟩, _, rfl, by decide, rfl, by decide⟩

/-- One OUTON frame offered and accepted, then its scan pass. -/
theorem witness_SafeStreamHasItsEffects :
    let s := State.resetWith c5
    let inputs : List Input :=
      StreamItem.outOn.expand.map (fun b => { offer := some b, txReady := true, turn := .accept }) ++ consumerTurns 3
    s.Inv ∧ s.pst = .idle ∧ s.cst = .idle ∧ s.count = 0 ∧ s.rx = [] ∧ 5 ≤ s.cfg.capacity ∧
    (∀ item ∈ [StreamItem.outOn, .frame 0x03#8 0xFE#8 0x00#8 0x00#8], safeItem s.cfg item = true) ∧
    (∀ i ∈ inputs, i.noReset = true) ∧ offeredBytes inputs = expandAll [.outOn] ∧
    ∃ t, runInputs s inputs = .next t ∧ t.quiescent ∧ t.rx = [] ∧ noOverrun (t.trace.drop s.trace.length) = true :=
  ⟨inv_empty, rfl, rfl, rfl, rfl, by decide, by decide, by decide, by decide, _, rfl, by decide, rfl, by decide⟩

/-- R256, R134: what is left of a final SetOutput frame, by policy, and of another frame. -/
theorem test_streamLeftover :
    streamLeftover c5 [.setPeriod 100#16, .frame 0x03#8 0x11#8 0x22#8 0x33#8] = [0x03#8, 0x11#8, 0x22#8, 0x33#8] ∧
    streamLeftover { c5 with policy := .uniform } [.outOn] = [] ∧ streamLeftover c5 [.outOn, .setPeriod 100#16] = [] ∧
    streamLeftover c5 [] = [] := by decide

/-- The same byte at index 0 of 5 and at index 2 of 3. -/
def shifted : State := { State.resetWith c3 with mem := [(2, 0x10#8)], head := 0, tail := 2, count := 1 }
theorem inv_shifted : shifted.Inv := by constructor <;> decide

theorem witness_LayoutIsUnobservable :
    (drawn (queued c5 [0x10#8]) (some 0x11#8) true .accept).Inv ∧ (drawn shifted (some 0x11#8) true .accept).Inv ∧
    (drawn (queued c5 [0x10#8]) (some 0x11#8) true .accept).sameQueue (drawn shifted (some 0x11#8) true .accept) ∧
    pushStatus (drawn (queued c5 [0x10#8]) (some 0x11#8) true .accept) =
      pushStatus (drawn shifted (some 0x11#8) true .accept) ∧
    ∃ t, step (drawn (queued c5 [0x10#8]) (some 0x11#8) true .accept) = .next t :=
  ⟨inv_drawn inv_one _ _ _, inv_drawn inv_shifted _ _ _, by decide, by decide, _, rfl⟩

end Sys2Proof.Tests
end

section
/-! The family of 00_scope.md: reset values (R35), parameters (R27), picks that are not enabled (R12), and the block
with a capacity below one frame (R9). -/

namespace Sys2Proof.Machine

variable {s t : State}

/-! ## Reset values -/

/-- Settles O46, field by field; the empty queue is that of `count = 0`. -/
theorem resetValues : Obligations.ResetValues := fun _ =>
  ⟨rfl, rfl, rfl, rfl, rfl, rfl, rfl, rfl, q_of_count_zero rfl, rfl, rfl⟩

/-! ## The parameters -/

@[simp] theorem State.realise_cfg (s : State) (cmd : Option TypedCommand) : (s.realise cmd).cfg = s.cfg := by
  match cmd with
  | some (.setOutput _) => rfl
  | some (.setPeriod _) => rfl
  | none => rfl

theorem TurnEffect.cfg_eq {turn : Turn} (h : TurnEffect s turn t) : t.cfg = s.cfg := by
  cases h <;> simp

theorem step_cfg (h : step s = .next t) : t.cfg = s.cfg := (step_effect h).cfg_eq

theorem scanPass_cfg {k : FrameClass} {w : Frame} (h : scanPass k w s = .next t) : t.cfg = s.cfg := by
  rcases scanPass_next h with ⟨-, rfl⟩ | ⟨-, rfl⟩ <;> simp

/-- A SETPERIOD, OUTON or OUTOFF makes its call in the state of its call and is a scan pass elsewhere. -/
theorem callOrScan_cfg {p : Prop} [Decidable p] {u : State} {k : FrameClass} {w : Frame}
    (h : (if p then consumerOnly s u else scanPass k w s) = .next t) (hu : u.cfg = s.cfg) : t.cfg = s.cfg := by
  split at h
  · rcases consumerOnly_next h with ⟨-, rfl⟩ | ⟨-, rfl⟩
    · exact hu
    · rfl
  · exact scanPass_cfg h

theorem sendResponseByte_cfg (h : sendResponseByte s = .next t) : t.cfg = s.cfg := by
  rcases sendResponseByte_next h with ⟨b, -, -, -, rfl⟩ | rfl <;> simp

theorem ringPush_cfg {b : Byte} (h : ringPush b s = .next t) : t.cfg = s.cfg := by
  rcases ringPush_cases b s with ⟨-, -, he⟩ | ⟨-, -, he⟩ | ⟨-, he⟩ <;> rw [he] at h <;> cases h <;> simp

theorem ringPop_cfg (h : ringPop s = .next t) : t.cfg = s.cfg := by
  rcases ringPop_cases s with ⟨-, -, he⟩ | ⟨-, -, he⟩ | ⟨-, he⟩ <;> rw [he] at h <;> cases h <;> simp

theorem ringPeek_cfg {i : Nat} (h : ringPeek i s = .next t) : t.cfg = s.cfg := by
  unfold ringPeek orFault at h
  split at h <;> cases h
  rfl

theorem execResponse_cfg {p : U16} (h : execResponse p s = .next t) : t.cfg = s.cfg := by
  unfold execResponse at h
  split at h
  · rcases consumerOnly_next h with ⟨-, rfl⟩ | ⟨-, rfl⟩ <;> simp
  · exact sendResponseByte_cfg h
  · cases h; rfl

theorem execDiagE_cfg (h : execDiagE s = .next t) : t.cfg = s.cfg :=
  (producerStep_effect h).cfg_eq

theorem execDiagU_cfg (h : execDiagU s = .next t) : t.cfg = s.cfg := by
  unfold execDiagU at h
  split at h
  · rcases transmitOnly_next h with ⟨-, -, rfl⟩ | rfl <;> simp
  · cases h; rfl

theorem exec_cfg {i : Instr} (h : exec i s = .next t) : t.cfg = s.cfg := by
  cases i with
  | desync => exact scanPass_cfg h
  | setperiod => exact callOrScan_cfg h rfl
  | outon => exact callOrScan_cfg h rfl
  | outoff => exact callOrScan_cfg h rfl
  | invalid => exact scanPass_cfg h
  | response => exact execResponse_cfg h
  | diagE => exact execDiagE_cfg h
  | diagU => exact execDiagU_cfg h
  | push => exact ringPush_cfg h
  | pop => exact ringPop_cfg h
  | peek => exact ringPeek_cfg h
  | count => cases h; rfl

/-- Settles O45: of a step by its effects, of `exec` by the instruction. -/
theorem parametersNeverChange : Obligations.ParametersNeverChange :=
  ⟨fun _ _ => step_cfg, fun _ _ _ => exec_cfg⟩

/-! ## Picks that are not enabled -/

theorem acceptStep_of_not_enabled (h : ¬ s.acceptEnabled) : acceptStep s = .next s := by
  unfold acceptStep
  split
  next b rest hp hrx => exact absurd ⟨hp, by simp [hrx]⟩ h
  next => rfl

theorem sendOverrunByte_of_not_ready (h : s.txReady = false) : sendOverrunByte s = .next s := by
  simp [sendOverrunByte, hold, h]

theorem producerStep_of_not_enabled (h : ¬ s.producerEnabled) : producerStep s = .next s := by
  change execDiagE s = .next s
  unfold execDiagE
  split
  next hp => exact sendOverrunByte_of_not_ready (by simpa [hp] using h)
  next => rfl

theorem transmitOnly_of_not_ready {u : State} (h : s.txReady = false) : transmitOnly s u = .next s := by
  simp [transmitOnly, hold, h]

theorem sendResponseByte_of_not_ready (hn : s.rsn < 5) (h : s.txReady = false) : sendResponseByte s = .next s := by
  obtain ⟨b, hb⟩ := frameByte_of_lt s.rsp hn
  simpa [sendResponseByte, hb] using transmitOnly_of_not_ready h

theorem sendUnderrunByte_of_not_ready (h : s.txReady = false) : sendUnderrunByte s = .next s :=
  transmitOnly_of_not_ready h

theorem scanStep_of_count_lt (h : s.count < 5) : scanStep s = .next s := if_neg (Nat.not_le.2 h)

/-- The consumer's holds: the handler runs, fewer than five bytes are queued in `S_IDLE`, or a byte waits for transmit
ready. In `S_TX` the range of `rsn` excludes the fault. -/
theorem consumerStep_of_not_enabled (hrsn : s.cst = .tx → s.rsn < 5) (h : ¬ s.consumerEnabled) :
    consumerStep s = .next s := by
  unfold consumerStep
  cases hp : s.pst with
  | diag => rfl
  | idle =>
    cases hcst : s.cst with
    | idle => exact scanStep_of_count_lt (by simpa [hp, hcst] using h)
    | tx =>
      have hr : s.txReady = false := by simpa [hp, hcst] using h
      simpa [exec, execResponse, hcst] using sendResponseByte_of_not_ready (hrsn hcst) hr
    | udiag =>
      have hr : s.txReady = false := by simpa [hp, hcst] using h
      simpa [exec, execDiagU, hcst] using sendUnderrunByte_of_not_ready hr
    | out | drop | pg => exact absurd ⟨hp, by simp [hcst], by simp [hcst]⟩ h

/-- Settles O41, agent by agent; the invariant is needed only for `rsn` in `S_TX`. -/
theorem disabledTurnsHold : Obligations.DisabledTurnsHold := by
  intro s hi
  refine ⟨fun ht h => ?_, fun ht h => ?_, fun ht h => ?_⟩ <;> rw [step, ht]
  · exact acceptStep_of_not_enabled h
  · exact producerStep_of_not_enabled h
  · exact consumerStep_of_not_enabled (fun hc => Nat.lt_succ_of_le (hi.sending hc).1) h

/-! ## Runs that keep a predicate -/

theorem run_succ {u : State} (h : step s = .next u) (k : Nat) :
    Sys2Proof.core.run (k + 1) s = Sys2Proof.core.run k u := by
  simp only [Host.Core.run, show Sys2Proof.core.step s = .next u from h]

/-- What holds of a state and is carried over by a step that never stops holds at the end of every run. -/
theorem run_keeps {P : State → Prop} (hstep : ∀ s, P s → ∃ t, step s = .next t ∧ P t) (k : Nat) :
    ∀ s, P s → ∃ t, Sys2Proof.core.run k s = .next t ∧ P t := by
  induction k with
  | zero => exact fun s hs => ⟨s, rfl, hs⟩
  | succ k ih =>
    intro s hs
    obtain ⟨u, hu, hPu⟩ := hstep s hs
    obtain ⟨t, ht, hPt⟩ := ih u hPu
    exact ⟨t, (run_succ hu k).trans ht, hPt⟩

/-! ## The events that are no arrival -/

@[simp] theorem effects_append (a b : List Event) : effects (a ++ b) = effects a ++ effects b := List.filter_append ..
@[simp] theorem effects_rx (b : Byte) (st : PushStatus) : effects [.rx b st] = [] := rfl
@[simp] theorem effects_tx (b : Byte) : effects [.tx b] = [.tx b] := rfl

/-! ## A capacity below the frame's length -/

/-- What a block whose RingBuffer cannot hold a frame keeps at every step boundary (R9): the consumer is idle, the
registers a push uses are in range, and the only effects so far are overrun diagnostics. -/
structure State.BelowFrameLength (s : State) : Prop where
  legal : s.cfg.legal
  short : s.cfg.capacity < 5
  headIn : s.head < s.cfg.capacity
  countLe : s.count ≤ s.cfg.capacity
  idle : s.cst = .idle
  onlyOverruns : ∀ ev ∈ effects s.trace, ev = .tx diagOverrun

theorem State.BelowFrameLength.count_lt (h : s.BelowFrameLength) : s.count < 5 := h.countLe.trans_lt h.short

theorem State.BelowFrameLength.of_reset {c : Config} (hc : c.legal) (hs : c.capacity < 5) (inputs : List Input) :
    ({ State.resetWith c with inputs := inputs } : State).BelowFrameLength where
  legal := hc
  short := hs
  headIn := hc
  countLe := Nat.zero_le _
  idle := rfl
  onlyOverruns _ h := nomatch h

theorem State.BelowFrameLength.sample (h : s.BelowFrameLength) : s.sample.BelowFrameLength :=
  ⟨h.legal, h.short, h.headIn, h.countLe, h.idle, h.onlyOverruns⟩

theorem acceptStep_answers (hh : s.head < s.cfg.capacity) : ∃ t, acceptStep s = .next t := by
  unfold acceptStep
  split
  next b rest hp hrx =>
    simp only [exec, execPush]
    rcases ringPush_cases b s with ⟨-, -, he⟩ | ⟨-, hge, -⟩ | ⟨-, he⟩
    · rw [he]; exact ⟨_, rfl⟩
    · exact absurd hh (Nat.not_lt.2 hge)
    · rw [he]; exact ⟨_, rfl⟩
  next => exact ⟨s, rfl⟩

theorem producerStep_answers (s : State) : ∃ t, producerStep s = .next t := by
  change ∃ t, execDiagE s = .next t
  unfold execDiagE sendOverrunByte
  split_ifs <;> exact ⟨_, rfl⟩

/-- No turn stops: the consumer, never enabled, holds. -/
theorem State.BelowFrameLength.takeTurn_answers (h : s.BelowFrameLength) (turn : Turn) :
    ∃ t, takeTurn s turn = .next t := by
  cases turn with
  | accept => exact acceptStep_answers h.headIn
  | producer => exact producerStep_answers s
  | consumer =>
    have hdis : ¬ s.consumerEnabled := fun ⟨_, hq, _⟩ => absurd (hq h.idle) (Nat.not_le.2 h.count_lt)
    exact ⟨s, consumerStep_of_not_enabled (by simp [h.idle]) hdis⟩
  | reset kept => exact ⟨_, rfl⟩

theorem State.BelowFrameLength.of_turnEffect {turn : Turn} (h : s.BelowFrameLength) (he : TurnEffect s turn t) :
    t.BelowFrameLength := by
  obtain ⟨hl, hs, hh, hc, hi, ho⟩ := h
  cases he with
  | holds => exact ⟨hl, hs, hh, hc, hi, ho⟩
  | stored b rest hp hrx hlt _ =>
    exact ⟨hl, hs, Nat.mod_lt _ hl, hlt, hi, by simpa using ho⟩
  | overran => exact ⟨hl, hs, hh, hc, hi, by simpa using ho⟩
  | reported => exact ⟨hl, hs, hh, hc, hi, by simpa [or_imp, forall_and] using ho⟩
  | scanned w _ _ h5 _ => omega
  | calledOutput _ hcst => simp [hi] at hcst
  | discarded _ hcst => simp [hi] at hcst
  | foundEmpty _ hcst => simp [hi] at hcst
  | reportedUnderrun _ hcst => simp [hi] at hcst
  | calledPulse _ hcst => simp [hi] at hcst
  | sent _ _ hcst => simp [hi] at hcst
  | reset kept => exact ⟨hl, hs, hl, Nat.zero_le _, rfl, ho⟩

theorem State.BelowFrameLength.step (s : State) (h : s.BelowFrameLength) :
    ∃ t, step s = .next t ∧ t.BelowFrameLength := by
  obtain ⟨t, ht⟩ := h.sample.takeTurn_answers s.nextInput.turn
  exact ⟨t, ht, h.sample.of_turnEffect (takeTurn_effect ht)⟩

/-- Settles O52: `State.BelowFrameLength` holds at reset, and every step keeps it and answers a next state. -/
theorem noDispatchBelowFrameLength : Obligations.NoDispatchBelowFrameLength := by
  intro c inputs hc hs
  obtain ⟨t, ht, hb⟩ := run_keeps State.BelowFrameLength.step inputs.length _ (.of_reset hc hs inputs)
  exact ⟨t, ht, hb.idle, hb.onlyOverruns⟩

end Sys2Proof.Machine
end

section
/-! The family of 10_state.md: the state after reset (R35, R240), the logical queue under a push, a pop and a step
(R25, R60, R137), the invariant (R20, R23, R24, R31, R129), and that the queue's place in storage cannot be observed
(R25, R110). -/

namespace Sys2Proof.Machine

variable {s s' t u : State}

/-! ## The two halves of the invariant

Each half is a predicate of the registers it speaks of, not of the state: an update that leaves those registers keeps
the half as it stands. -/

/-- The RingBuffer's half of `State.Inv`: the storage and the registers that say which of it is live (R20, R23, R24). -/
structure RingInv (c : Config) (mem : Memory) (head tail count : Nat) : Prop where
  legal : c.legal
  memWf : mem.wf
  memInside : ∀ e ∈ mem, e.1 < c.capacity
  headIn : head < c.capacity
  tailIn : tail < c.capacity
  countLe : count ≤ c.capacity
  headEq : head = (tail + count) % c.capacity

/-- The consumer's half of `State.Inv`: the ranges of its registers and what each of its states rests on (R20, R31,
R129, R170). -/
structure ConsumerInv (cst : CState) (count drop rsn : Nat) (rsp : Frame) (period : U16) : Prop where
  dropLe : drop ≤ 5
  rsnLe : rsn ≤ 5
  outQueued : cst = .out → 5 ≤ count
  dropQueued : cst = .drop → 1 ≤ drop ∧ drop ≤ count
  udiagQueued : cst = .udiag → drop ≤ count
  sending : cst = .tx → rsn ≤ 4 ∧ rsp = buildResponse period

theorem State.inv_iff : s.Inv ↔
    RingInv s.cfg s.mem s.head s.tail s.count ∧ ConsumerInv s.cst s.count s.drop s.rsn s.rsp s.period where
  mp h := ⟨⟨h.legal, h.memWf, h.memInside, h.headIn, h.tailIn, h.countLe, h.headEq⟩,
    ⟨h.dropLe, h.rsnLe, h.outQueued, h.dropQueued, h.udiagQueued, h.sending⟩⟩
  mpr := fun ⟨hring, hcons⟩ =>
    ⟨hring.legal, hring.memWf, hring.memInside, hring.headIn, hring.tailIn, hring.countLe, hring.headEq, hcons.dropLe,
      hcons.rsnLe, hcons.outQueued, hcons.dropQueued, hcons.udiagQueued, hcons.sending⟩

section
variable {c : Config} {mem : Memory} {head tail count : Nat}

theorem RingInv.store (h : RingInv c mem head tail count) (hc : count < c.capacity) (b : Byte) :
    RingInv c (mem.write head b) ((head + 1) % c.capacity) tail (count + 1) where
  legal := h.legal
  memWf := Memory.write_wf h.memWf head b
  memInside := Memory.write_inside h.memInside h.headIn b
  headIn := Nat.mod_lt _ h.legal
  tailIn := h.tailIn
  countLe := hc
  headEq := by rw [h.headEq, Nat.mod_add_mod, Nat.add_assoc]

theorem RingInv.remove (h : RingInv c mem head tail count) (hc : 0 < count) :
    RingInv c mem head ((tail + 1) % c.capacity) (count - 1) where
  legal := h.legal
  memWf := h.memWf
  memInside := h.memInside
  headIn := h.headIn
  tailIn := Nat.mod_lt _ h.legal
  countLe := (Nat.sub_le _ _).trans h.countLe
  headEq := by rw [h.headEq, Nat.mod_add_mod, Nat.add_assoc, Nat.add_sub_cancel' hc]

end

section
variable {cst : CState} {count drop rsn : Nat} {rsp : Frame} {period : U16}

/-- An arrival leaves the consumer's half: more bytes queued is never less than it rests on (R62). -/
theorem ConsumerInv.succ_count (h : ConsumerInv cst count drop rsn rsp period) :
    ConsumerInv cst (count + 1) drop rsn rsp period where
  dropLe := h.dropLe
  rsnLe := h.rsnLe
  outQueued hc := Nat.le_succ_of_le (h.outQueued hc)
  dropQueued hc := ⟨(h.dropQueued hc).1, Nat.le_succ_of_le (h.dropQueued hc).2⟩
  udiagQueued hc := Nat.le_succ_of_le (h.udiagQueued hc)
  sending := h.sending

/-- Nothing rests on `S_IDLE` and `S_PG`, the two states `dnext` names. -/
theorem ConsumerInv.of_dnext (hd : drop ≤ 5) (hr : rsn ≤ 5) (d : DNext) :
    ConsumerInv d.toCState count drop rsn rsp period := by
  cases d <;> exact ⟨hd, hr, nofun, nofun, nofun, nofun⟩

theorem ConsumerInv.of_drop (hr : rsn ≤ 5) (h1 : 1 ≤ drop) (hd : drop ≤ 5) (hq : drop ≤ count) :
    ConsumerInv .drop count drop rsn rsp period :=
  ⟨hd, hr, nofun, fun _ => ⟨h1, hq⟩, nofun, nofun⟩

/-- Where the discards stand: at 0 the consumer goes on to `dnext`, before that it discards (R128, R178). -/
theorem ConsumerInv.of_discards (hr : rsn ≤ 5) (hd : drop ≤ 5) (hq : drop ≤ count) (d : DNext) :
    ConsumerInv (if drop = 0 then d.toCState else .drop) count drop rsn rsp period := by
  split
  · exact .of_dnext hd hr d
  · exact .of_drop hr (by omega) hd hq

/-- One more byte of the response sent: the fifth ends the poll cycle, before it the frame stays (R175). -/
theorem ConsumerInv.of_sent (h : ConsumerInv .tx count drop rsn rsp period) :
    ConsumerInv (if rsn = 4 then .idle else .tx) count drop (rsn + 1) rsp period := by
  obtain ⟨hn, hrsp⟩ := h.sending rfl
  split
  · exact .of_dnext h.dropLe (by omega) .idle
  · exact ⟨h.dropLe, by omega, nofun, nofun, nofun, fun _ => ⟨by omega, hrsp⟩⟩

end

theorem outputDrop_bounds (c : Config) : 1 ≤ outputDrop c ∧ outputDrop c ≤ 5 := by
  unfold outputDrop
  cases c.policy <;> decide

/-! ## Reset -/

/-- Settles O48, clause by clause. -/
theorem resetMeetsInvariant : Obligations.ResetMeetsInvariant := fun c hc =>
  { legal := hc
    memWf := Memory.reset_wf c
    memInside := nofun
    headIn := hc
    tailIn := hc
    countLe := Nat.zero_le _
    headEq := (Nat.zero_mod _).symm
    dropLe := Nat.zero_le _
    rsnLe := Nat.zero_le _
    outQueued := nofun
    dropQueued := nofun
    udiagQueued := nofun
    sending := nofun }

/-- Settles O47: the turn is `State.resetBlock` after the draw. -/
theorem resetInputAbandonsWork : Obligations.ResetInputAbandonsWork := by
  intro s kept h
  have hstep : step s = .next (s.sample.resetBlock kept) := by rw [step, h]; rfl
  exact ⟨_, hstep, rfl, rfl, rfl, rfl, rfl, rfl, rfl, rfl, q_resetBlock _ kept, rfl, rfl⟩

/-! ## Every step keeps the invariant -/

theorem State.Inv.sample (h : s.Inv) : s.sample.Inv :=
  have ⟨hring, hcons⟩ := State.inv_iff.1 h
  State.inv_iff.2 ⟨hring, hcons⟩

theorem State.Inv.resetBlock (h : s.Inv) (kept : List Byte) : (s.resetBlock kept).Inv :=
  have ⟨hring, hcons⟩ := State.inv_iff.1 (resetMeetsInvariant s.cfg h.legal)
  State.inv_iff.2 ⟨hring, hcons⟩

/-- A scan pass that found five bytes queued: whatever it recognises rests on no more than those (R121, R152). -/
theorem State.Inv.realise (h : s.Inv) (hc : 5 ≤ s.count) (w : Frame) (cmd : Option TypedCommand) :
    ((s.latch w).realise cmd).Inv := by
  obtain ⟨hring, hcons⟩ := State.inv_iff.1 h
  match cmd with
  | some (.setOutput v) =>
    exact State.inv_iff.2 ⟨hring, hcons.dropLe, hcons.rsnLe, fun _ => hc, nofun, nofun, nofun⟩
  | some (.setPeriod p) =>
    exact State.inv_iff.2 ⟨hring, .of_drop (drop := 5) hcons.rsnLe (by decide) (by decide) hc⟩
  | none =>
    have h1 : 1 ≤ s.count := by omega
    exact State.inv_iff.2 ⟨hring, .of_drop (drop := 1) hcons.rsnLe (by decide) (by decide) h1⟩

/-- The invariant is kept by each effect of a turn. -/
theorem State.Inv.of_turnEffect {turn : Turn} (h : s.Inv) (he : TurnEffect s turn t) : t.Inv := by
  obtain ⟨hring, hcons⟩ := State.inv_iff.1 h
  cases he with
  | holds => exact h
  | stored b rest _ _ hlt _ => exact State.inv_iff.2 ⟨hring.store hlt b, hcons.succ_count⟩
  | overran => exact State.inv_iff.2 ⟨hring, hcons⟩
  | reported => exact State.inv_iff.2 ⟨hring, hcons⟩
  | scanned w _ _ h5 _ => exact h.realise h5 w _
  | calledOutput _ hcst =>
    obtain ⟨h1, h5⟩ := outputDrop_bounds s.cfg
    exact State.inv_iff.2 ⟨hring, .of_drop hcons.rsnLe h1 h5 (h5.trans (hcons.outQueued hcst))⟩
  | discarded _ hcst _ hpos _ =>
    have hd : s.drop - 1 ≤ 5 := (Nat.sub_le _ _).trans hcons.dropLe
    have hq : s.drop - 1 ≤ s.count - 1 := Nat.sub_le_sub_right (hcons.dropQueued hcst).2 1
    exact State.inv_iff.2 ⟨hring.remove hpos, .of_discards hcons.rsnLe hd hq s.dnext⟩
  | foundEmpty _ hcst hd hempty =>
    exact absurd (hcons.dropQueued hcst).2 (by omega)
  | reportedUnderrun _ hcst =>
    exact State.inv_iff.2 ⟨hring, .of_discards hcons.rsnLe hcons.dropLe (hcons.udiagQueued hcst) s.dnext⟩
  | calledPulse =>
    exact State.inv_iff.2 ⟨hring, hcons.dropLe, Nat.zero_le _, nofun, nofun, nofun, fun _ => ⟨Nat.zero_le _, rfl⟩⟩
  | sent b _ hcst => exact State.inv_iff.2 ⟨hring, (hcst ▸ hcons).of_sent⟩
  | reset kept => exact h.resetBlock kept

/-- Settles O49: the draw keeps the invariant, and so does each effect of the turn. -/
theorem stepKeepsInvariant : Obligations.StepKeepsInvariant := fun _ _ h hs =>
  h.sample.of_turnEffect (step_effect hs)

/-! ## The queue under a push and a pop -/

theorem State.Inv.ringPush_stores (h : s.Inv) (hc : s.count < s.cfg.capacity) (b : Byte) :
    ringPush b s = .next ((s.storeByte b).reply (.pushed .ok)) := by
  simp [ringPush, pushStatus, hc, h.headIn]

theorem ringPush_overruns (hc : s.cfg.capacity ≤ s.count) (b : Byte) :
    ringPush b s = .next (s.reply (.pushed .overrun)) := by
  simp [ringPush, pushStatus, Nat.not_lt.2 hc]

theorem State.Inv.ringPop_removes (h : s.Inv) (hc : 0 < s.count) :
    ringPop s = .next (s.removeOldest.reply (.popped (s.mem.read s.tail) .ok)) := by
  simp [ringPop, State.memRead, orFault, hc, h.tailIn]

theorem ringPop_empty (hc : s.count = 0) :
    ringPop s = .next (s.reply (.popped Config.sentinel (emptyPopStatus s.cfg))) := by
  simp [ringPop, hc]

/-- Settles O16: a push below and at capacity, and a pop with and without a byte queued. -/
theorem queueUnderPushAndPop : Obligations.QueueUnderPushAndPop := by
  intro s b h
  refine ⟨fun hlt => ?_, fun hfull => ?_, ?_⟩
  · exact ⟨_, h.ringPush_stores hlt b, by simp [q_storeByte h hlt]⟩
  · exact ⟨_, ringPush_overruns hfull.ge b, q_reply _ _⟩
  · rcases Nat.eq_zero_or_pos s.count with hc | hc
    · exact ⟨_, ringPop_empty hc, by simp [q_of_count_zero hc]⟩
    · exact ⟨_, h.ringPop_removes hc, by simp [q_removeOldest]⟩

/-! ## What a turn does to `count` and to the queue -/

@[simp] theorem State.realise_count (s : State) (cmd : Option TypedCommand) : (s.realise cmd).count = s.count := by
  match cmd with
  | some (.setOutput _) => rfl
  | some (.setPeriod _) => rfl
  | none => rfl

@[simp] theorem q_realise (s : State) (cmd : Option TypedCommand) : (s.realise cmd).q = s.q := by
  match cmd with
  | some (.setOutput _) => rfl
  | some (.setPeriod _) => rfl
  | none => rfl

theorem turn_ne_reset_of_noReset {i : Input} (h : i.noReset = true) (kept : List Byte) : i.turn ≠ .reset kept :=
  fun hk => by simp [Input.noReset, hk] at h

/-- `count` at the end of a turn, the reset input apart: only `stored` and `discarded` write it. -/
theorem TurnEffect.count {turn : Turn} (he : TurnEffect s turn t) (hr : ∀ kept, turn ≠ .reset kept) :
    t.count = s.count ∨ (turn = .accept ∧ t.count = s.count + 1) ∨
      (turn = .consumer ∧ s.cst = .drop ∧ t.count + 1 = s.count) := by
  cases he with
  | stored => exact .inr (.inl ⟨rfl, rfl⟩)
  | discarded _ hcst _ hpos _ => exact .inr (.inr ⟨rfl, hcst, Nat.sub_add_cancel hpos⟩)
  | reset kept => exact absurd rfl (hr kept)
  | holds | overran | reported | calledOutput | foundEmpty | reportedUnderrun | calledPulse | sent => exact .inl rfl
  | scanned => exact .inl (by simp)

/-- Settles O43: the draw leaves `count`, the turn does what `TurnEffect.count` says. -/
theorem countChangesByOne : Obligations.CountChangesByOne := fun _ _ hs hr =>
  (step_effect hs).count (turn_ne_reset_of_noReset hr)

/-- The queue at the end of a turn, the reset input apart: only `stored` and `discarded` change it. -/
theorem TurnEffect.queue {turn : Turn} (h : s.Inv) (he : TurnEffect s turn t) (hr : ∀ kept, turn ≠ .reset kept) :
    t.q = s.q ∨
    (turn = .accept ∧ ∃ b, t.trace = s.trace ++ [.rx b .ok] ∧ t.q = s.q ++ [b]) ∨
    (turn = .consumer ∧ s.cst = .drop ∧ ∃ b, s.q = b :: t.q) := by
  cases he with
  | stored b _ _ _ hlt _ => exact .inr (.inl ⟨rfl, b, rfl, by simp [q_storeByte h hlt]⟩)
  | discarded _ hcst _ hpos _ =>
    have hq : s.q = s.mem.read s.tail :: s.q.drop 1 :=
      List.drop_one ▸ (List.cons_head?_tail (q_head h hpos)).symm
    exact .inr (.inr ⟨rfl, hcst, _, by simpa [q_removeOldest] using hq⟩)
  | reset kept => exact absurd rfl (hr kept)
  | holds | overran | reported | calledOutput | foundEmpty | reportedUnderrun | calledPulse | sent => exact .inl rfl
  | scanned => exact .inl (by simp)

/-- Settles O44: the draw leaves the queue and the trace, the turn does what `TurnEffect.queue` says. -/
theorem queueChangesAtItsEnds : Obligations.QueueChangesAtItsEnds := by
  intro s t h hs hr
  have hq := (step_effect hs).queue h.sample (turn_ne_reset_of_noReset hr)
  exact hq

/-! ## The steps, by the state of their agent -/

theorem acceptStep_pushes {b : Byte} {rest : List Byte} (hp : s.pst = .idle) (hrx : s.rx = b :: rest) :
    acceptStep s = thenUpdate (ringPush b s) fun t => t.handlerEntry b (pushStatus s) := by
  simp only [acceptStep, hp, hrx, exec, execPush]

theorem producerStep_of_handler (hp : s.pst = .diag) : producerStep s = sendOverrunByte s := if_pos hp

theorem producerStep_of_idle (hp : s.pst = .idle) : producerStep s = .next s := if_neg (by simp [hp])

theorem consumerStep_of_handler (hp : s.pst = .diag) : consumerStep s = .next s := by
  simp only [consumerStep, hp, hold]

theorem consumerStep_scans (hp : s.pst = .idle) (hcst : s.cst = .idle) : consumerStep s = scanStep s := by
  simp only [consumerStep, hp, hcst]

theorem consumerStep_callsOutput (hp : s.pst = .idle) (hcst : s.cst = .out) :
    consumerStep s = callOutput s.outv s := by
  cases ho : s.outv <;> simp [consumerStep, hp, hcst, ho, exec, execOutOn, execOutOff]

theorem consumerStep_discards (hp : s.pst = .idle) (hcst : s.cst = .drop) : consumerStep s = discardStep s := by
  simp only [consumerStep, hp, hcst]

theorem consumerStep_sendsUnderrun (hp : s.pst = .idle) (hcst : s.cst = .udiag) :
    consumerStep s = sendUnderrunByte s := by
  simp [consumerStep, hp, hcst, exec, execDiagU]

theorem consumerStep_callsPulse (hp : s.pst = .idle) (hcst : s.cst = .pg) :
    consumerStep s = callPulseGenerator s := by
  simp [consumerStep, hp, hcst, exec, execSetPeriod]

theorem consumerStep_sendsResponse (hp : s.pst = .idle) (hcst : s.cst = .tx) :
    consumerStep s = sendResponseByte s := by
  simp [consumerStep, hp, hcst, exec, execResponse]

/-- A discard of the invariant finds a byte (R129). -/
theorem State.Inv.discardStep_removes (h : s.Inv) (hcst : s.cst = .drop) :
    discardStep s = .next ((s.removeOldest.reply (.popped (s.mem.read s.tail) .ok)).afterDiscard .ok) := by
  obtain ⟨h1, hq⟩ := h.dropQueued hcst
  have hpos : 0 < s.count := h1.trans hq
  have hpop : exec .pop s = .next (s.removeOldest.reply (.popped (s.mem.read s.tail) .ok)) := h.ringPop_removes hpos
  rw [discardStep, if_neg (by omega), hpop, popStatus, if_pos hpos]; rfl

/-! ## Two layouts of one queue

Every operation but PUSH, POP and the reset input works on any layout alike: it commutes with laying the queue out
elsewhere. Those three change the layout, and are compared through the queue. -/

/-- `s` with its queue where `u` has it: the storage, `head`, `tail` and the capacity are those of `u`. -/
def State.laidOutAs (s u : State) : State :=
  { s with mem := u.mem, head := u.head, tail := u.tail, cfg := { s.cfg with capacity := u.cfg.capacity } }

theorem State.sameQueue_iff : s.sameQueue t ↔ s.q = t.q ∧ s.laidOutAs t = t := Iff.rfl

@[simp] theorem State.laidOutAs_count (s u : State) : (s.laidOutAs u).count = s.count := rfl
@[simp] theorem State.laidOutAs_pst (s u : State) : (s.laidOutAs u).pst = s.pst := rfl
@[simp] theorem State.laidOutAs_cst (s u : State) : (s.laidOutAs u).cst = s.cst := rfl
@[simp] theorem State.laidOutAs_rsp (s u : State) : (s.laidOutAs u).rsp = s.rsp := rfl
@[simp] theorem State.laidOutAs_rsn (s u : State) : (s.laidOutAs u).rsn = s.rsn := rfl
@[simp] theorem State.laidOutAs_txReady (s u : State) : (s.laidOutAs u).txReady = s.txReady := rfl

theorem consumerOnly_laidOutAs (s v u : State) :
    consumerOnly (s.laidOutAs u) (v.laidOutAs u) = thenUpdate (consumerOnly s v) (·.laidOutAs u) :=
  (apply_ite (thenUpdate · (·.laidOutAs u)) (s.pst = .idle) (.next v) (hold s)).symm

theorem transmitOnly_laidOutAs (s v u : State) :
    transmitOnly (s.laidOutAs u) (v.laidOutAs u) = thenUpdate (transmitOnly s v) (·.laidOutAs u) := by
  simp only [transmitOnly, State.laidOutAs_txReady, consumerOnly_laidOutAs]
  split <;> rfl

theorem realise_laidOutAs (s u : State) (cmd : Option TypedCommand) :
    (s.laidOutAs u).realise cmd = (s.realise cmd).laidOutAs u := by
  match cmd with
  | some (.setOutput _) => rfl
  | some (.setPeriod _) => rfl
  | none => rfl

theorem scanPass_laidOutAs (k : FrameClass) (w : Frame) (s u : State) :
    scanPass k w (s.laidOutAs u) = thenUpdate (scanPass k w s) (·.laidOutAs u) := by
  have hlatch : (s.laidOutAs u).latch w = (s.latch w).laidOutAs u := rfl
  simp only [scanPass, hlatch, realise_laidOutAs, State.scanEnabled, State.laidOutAs_pst, State.laidOutAs_cst,
    State.laidOutAs_count]
  split <;> rfl

/-- A scan reads the layout through the head window alone. -/
theorem scanStep_laidOutAs (hcst : s.cst = .idle) (hw : (s.laidOutAs u).window = s.window) :
    scanStep (s.laidOutAs u) = thenUpdate (scanStep s) (·.laidOutAs u) := by
  simp only [scanStep, hw, State.laidOutAs_count]
  split
  · cases s.window with
    | ok w =>
      simp only [orFault, exec_decodeFrame w hcst, exec_decodeFrame w (s := s.laidOutAs u) hcst, scanPass_laidOutAs]
    | error f => rfl
  · rfl

theorem sendResponseByte_laidOutAs (s u : State) :
    sendResponseByte (s.laidOutAs u) = thenUpdate (sendResponseByte s) (·.laidOutAs u) := by
  simp only [sendResponseByte, State.laidOutAs_rsp, State.laidOutAs_rsn]
  split
  next b _ => exact transmitOnly_laidOutAs s (s.emit (.tx b)).advanceResponse u
  next => rfl

theorem sendOverrunByte_laidOutAs (s u : State) :
    sendOverrunByte (s.laidOutAs u) = thenUpdate (sendOverrunByte s) (·.laidOutAs u) :=
  (apply_ite (thenUpdate · (·.laidOutAs u)) (s.txReady = true) (.next (s.emit (.tx diagOverrun)).handlerReturn)
    (hold s)).symm

theorem producerStep_laidOutAs (s u : State) :
    producerStep (s.laidOutAs u) = thenUpdate (producerStep s) (·.laidOutAs u) := by
  cases hp : s.pst with
  | idle => rw [producerStep_of_idle hp, producerStep_of_idle (s := s.laidOutAs u) hp]; rfl
  | diag =>
    rw [producerStep_of_handler hp, producerStep_of_handler (s := s.laidOutAs u) hp, sendOverrunByte_laidOutAs]

/-- Outside `S_DROP` the consumer's step commutes with laying the queue out elsewhere. -/
theorem consumerStep_laidOutAs (hd : s.cst ≠ .drop) (hw : (s.laidOutAs u).window = s.window) :
    consumerStep (s.laidOutAs u) = thenUpdate (consumerStep s) (·.laidOutAs u) := by
  cases hp : s.pst with
  | diag => rw [consumerStep_of_handler hp, consumerStep_of_handler (s := s.laidOutAs u) hp]; rfl
  | idle =>
    have hp' : (s.laidOutAs u).pst = .idle := hp
    cases hcst : s.cst <;> have hcst' := (State.laidOutAs_cst s u).trans hcst
    case idle => rw [consumerStep_scans hp hcst, consumerStep_scans hp' hcst', scanStep_laidOutAs hcst hw]
    case out =>
      rw [consumerStep_callsOutput hp hcst, consumerStep_callsOutput hp' hcst']
      exact consumerOnly_laidOutAs s ((s.emit (.out s.outv)).startDrop (outputDrop s.cfg) .idle) u
    case drop => exact absurd hcst hd
    case udiag =>
      rw [consumerStep_sendsUnderrun hp hcst, consumerStep_sendsUnderrun hp' hcst']
      exact transmitOnly_laidOutAs s
        ((s.emit (.tx diagUnderrun)).goto (if s.drop = 0 then s.dnext.toCState else .drop)) u
    case pg =>
      rw [consumerStep_callsPulse hp hcst, consumerStep_callsPulse hp' hcst']
      exact consumerOnly_laidOutAs s
        ((s.emit (.pg s.period (dutyA s.period) (dutyB s.period))).startResponse s.period) u
    case tx =>
      rw [consumerStep_sendsResponse hp hcst, consumerStep_sendsResponse hp' hcst']
      exact sendResponseByte_laidOutAs ..

namespace State.sameQueue

theorem count_eq (h : s.sameQueue s') : s.count = s'.count := by
  rw [← q_length, ← q_length, h.1]

theorem window_eq (h : s.sameQueue s') (hN : 0 < s.cfg.capacity) (hN' : 0 < s'.cfg.capacity) :
    s'.window = s.window := by
  rw [Machine.window_eq hN, Machine.window_eq hN', h.1]

/-- A state that keeps the queue of `s` has it in the layout of any state with that queue, too. -/
theorem laidOutAs (h : s.sameQueue s') (hq : t.q = s.q) : t.sameQueue (t.laidOutAs s') := by
  refine State.sameQueue_iff.2 ⟨?_, rfl⟩
  have hc : t.count = s'.count := by rw [← q_length, hq, h.1, q_length]
  calc t.q = s.q := hq
    _ = s'.q := h.1
    _ = (t.laidOutAs s').q := q_congr rfl rfl hc.symm rfl

/-- Of an operation that commutes with laying out and keeps the queue, the two answers agree. -/
theorem of_commutes {f : State → Host.Outcome State Fault Refusal} (h : s.sameQueue s')
    (hf : f (s.laidOutAs s') = thenUpdate (f s) (·.laidOutAs s')) (ht : f s = .next t) (hq : t.q = s.q) :
    ∃ t', f s' = .next t' ∧ t.sameQueue t' := by
  rw [(State.sameQueue_iff.1 h).2, ht] at hf
  exact ⟨_, hf, h.laidOutAs hq⟩

theorem sample (h : s.sameQueue s') : s.sample.sameQueue s'.sample := ⟨h.1, congrArg State.sample h.2⟩

theorem nextInput_eq (h : s.sameQueue s') : s.nextInput = s'.nextInput := (congrArg State.nextInput h.2 :)

theorem pst_eq (h : s.sameQueue s') : s.pst = s'.pst := (congrArg State.pst h.2 :)

theorem cst_eq (h : s.sameQueue s') : s.cst = s'.cst := (congrArg State.cst h.2 :)

theorem rx_eq (h : s.sameQueue s') : s.rx = s'.rx := (congrArg State.rx h.2 :)

theorem handlerEntry (h : s.sameQueue s') (b : Byte) (st : PushStatus) :
    (s.handlerEntry b st).sameQueue (s'.handlerEntry b st) :=
  ⟨h.1, congrArg (·.handlerEntry b st) h.2⟩

theorem resetBlock (h : s.sameQueue s') (kept : List Byte) : (s.resetBlock kept).sameQueue (s'.resetBlock kept) :=
  ⟨by simp, congrArg (·.resetBlock kept) h.2⟩

/-- PUSH: with one status, both append the byte or both leave the queue. -/
theorem ringPush_next (h : s.sameQueue s') (hi : s.Inv) (hi' : s'.Inv) (hst : pushStatus s = pushStatus s') {b : Byte}
    (ht : ringPush b s = .next t) : ∃ t', ringPush b s' = .next t' ∧ t.sameQueue t' := by
  by_cases hc : s.count < s.cfg.capacity <;> by_cases hc' : s'.count < s'.cfg.capacity
  · rw [hi.ringPush_stores hc] at ht
    cases ht
    refine ⟨_, hi'.ringPush_stores hc' b, ?_, congrArg (fun x => (x.storeByte b).reply (.pushed .ok)) h.2⟩
    rw [q_reply, q_reply, q_storeByte hi hc, q_storeByte hi' hc', h.1]
  · simp [pushStatus, hc, hc'] at hst
  · simp [pushStatus, hc, hc'] at hst
  · rw [ringPush_overruns (Nat.not_lt.1 hc)] at ht
    cases ht
    exact ⟨_, ringPush_overruns (Nat.not_lt.1 hc') b, h.1, congrArg (·.reply (.pushed .overrun)) h.2⟩

theorem acceptStep_next (h : s.sameQueue s') (hi : s.Inv) (hi' : s'.Inv) (hst : pushStatus s = pushStatus s')
    (ht : acceptStep s = .next t) : ∃ t', acceptStep s' = .next t' ∧ t.sameQueue t' := by
  by_cases he : s.acceptEnabled
  · obtain ⟨b, rest, hb⟩ := List.exists_cons_of_ne_nil he.2
    rw [acceptStep_pushes he.1 hb] at ht
    obtain ⟨v, hv, rfl⟩ := thenUpdate_next ht
    obtain ⟨v', hv', hvv⟩ := h.ringPush_next hi hi' hst hv
    refine ⟨_, ?_, hvv.handlerEntry b (pushStatus s)⟩
    rw [acceptStep_pushes (h.pst_eq ▸ he.1) (h.rx_eq ▸ hb), hv', hst]; rfl
  · rw [acceptStep_of_not_enabled he] at ht
    cases ht
    exact ⟨s', acceptStep_of_not_enabled (by simpa [h.pst_eq, h.rx_eq] using he), h⟩

/-- The `S_DROP` step: both remove the oldest byte of the one queue, and answer it. -/
theorem discardStep_next (h : s.sameQueue s') (hi : s.Inv) (hi' : s'.Inv) (hcst : s.cst = .drop)
    (ht : discardStep s = .next t) : ∃ t', discardStep s' = .next t' ∧ t.sameQueue t' := by
  have hcst' : s'.cst = .drop := h.cst_eq ▸ hcst
  have hpos : 0 < s.count := (hi.dropQueued hcst).1.trans (hi.dropQueued hcst).2
  have holdest : s.mem.read s.tail = s'.mem.read s'.tail := Option.some.inj <| by
    rw [← q_head hi hpos, ← q_head hi' (h.count_eq ▸ hpos), h.1]
  rw [hi.discardStep_removes hcst, holdest] at ht
  cases ht
  refine ⟨_, hi'.discardStep_removes hcst', ?_,
    congrArg (fun x => (x.removeOldest.reply (.popped (s'.mem.read s'.tail) .ok)).afterDiscard .ok) h.2⟩
  simp [q_removeOldest, h.1]

theorem consumerStep_next (h : s.sameQueue s') (hi : s.Inv) (hi' : s'.Inv) (ht : consumerStep s = .next t) :
    ∃ t', consumerStep s' = .next t' ∧ t.sameQueue t' := by
  cases hps : s.pst with
  | diag =>
    rw [consumerStep_of_handler hps] at ht
    cases ht
    exact ⟨s', consumerStep_of_handler (h.pst_eq ▸ hps), h⟩
  | idle =>
    by_cases hd : s.cst = .drop
    · rw [consumerStep_discards hps hd] at ht
      rw [consumerStep_discards (h.pst_eq ▸ hps) (h.cst_eq ▸ hd)]
      exact h.discardStep_next hi hi' hd ht
    · have hw : (s.laidOutAs s').window = s.window :=
        (State.sameQueue_iff.1 h).2.symm ▸ h.window_eq hi.legal hi'.legal
      have hq : t.q = s.q := by simpa [hd] using (consumerStep_effect ht).queue hi nofun
      exact h.of_commutes (consumerStep_laidOutAs hd hw) ht hq

theorem takeTurn_next (h : s.sameQueue s') (hi : s.Inv) (hi' : s'.Inv) (hst : pushStatus s = pushStatus s')
    {turn : Turn} (ht : takeTurn s turn = .next t) : ∃ t', takeTurn s' turn = .next t' ∧ t.sameQueue t' := by
  cases turn with
  | accept => exact h.acceptStep_next hi hi' hst ht
  | producer =>
    have hq : t.q = s.q := by simpa using (producerStep_effect ht).queue hi nofun
    exact h.of_commutes (producerStep_laidOutAs s s') ht hq
  | consumer => exact h.consumerStep_next hi hi' ht
  | reset kept =>
    cases ht
    exact ⟨_, rfl, h.resetBlock kept⟩

end State.sameQueue

/-- Settles O60: both states draw the same input, and the turn it picks keeps them alike. -/
theorem layoutIsUnobservable : Obligations.LayoutIsUnobservable := by
  intro s s' t hi hi' h hst hs
  rw [step, ← h.nextInput_eq]
  exact h.sample.takeTurn_next hi.sample hi'.sample hst hs

end Sys2Proof.Machine
end

section
/-! The family of 20_memory.md: what PUSH, POP, PEEK and COUNT write of the storage and of the registers (R57, R100 to
R103), that a push reaches no live byte and no byte of the head window (R58, R62), and the order of the queue over runs
(R60). -/

namespace Sys2Proof.Machine

variable {s t u : State}

/-! ## The state a RingBuffer operation leaves -/

theorem ringPush_next {b : Byte} (h : ringPush b s = .next t) :
    (s.count < s.cfg.capacity ∧ t = (s.storeByte b).reply (.pushed .ok)) ∨
    (s.cfg.capacity ≤ s.count ∧ t = s.reply (.pushed .overrun)) := by
  rcases ringPush_cases b s with ⟨hc, -, he⟩ | ⟨-, -, he⟩ | ⟨hc, he⟩ <;> rw [he] at h <;> cases h
  · exact .inl ⟨hc, rfl⟩
  · exact .inr ⟨hc, rfl⟩

theorem ringPop_next (h : ringPop s = .next t) : ∃ a, t = s.removeOldest.reply a ∨ t = s.reply a := by
  rcases ringPop_cases s with ⟨-, -, he⟩ | ⟨-, -, he⟩ | ⟨-, he⟩ <;> rw [he] at h <;> cases h
  · exact ⟨_, .inl rfl⟩
  · exact ⟨_, .inr rfl⟩

theorem ringPeek_next {i : Nat} (h : ringPeek i s = .next t) : ∃ a, t = s.reply a := by
  unfold ringPeek orFault at h
  split at h <;> cases h
  exact ⟨_, rfl⟩

/-! ## A push and the bytes already queued -/

/-- A push appends to the queue, or leaves it (R60). -/
theorem State.Inv.q_push (hi : s.Inv) {b : Byte} (h : ringPush b s = .next t) : ∃ added, t.q = s.q ++ added := by
  rcases ringPush_next h with ⟨hc, rfl⟩ | ⟨-, rfl⟩
  · exact ⟨[b], by rw [q_reply, q_storeByte hi hc]⟩
  · exact ⟨[], by rw [q_reply, List.append_nil]⟩

/-- Below capacity `head` names no live byte (R58). -/
theorem State.Inv.live_ne_head (hi : s.Inv) (hc : s.count < s.cfg.capacity) {k : Nat} (hk : k < s.count) :
    (s.tail + k) % s.cfg.capacity ≠ s.head :=
  hi.headEq ▸ head_ne_live hk hc

theorem State.Inv.read_live_push (hi : s.Inv) {b : Byte} (h : ringPush b s = .next t) {k : Nat} (hk : k < s.count) :
    t.mem.read ((s.tail + k) % s.cfg.capacity) = s.mem.read ((s.tail + k) % s.cfg.capacity) := by
  rcases ringPush_next h with ⟨hc, rfl⟩ | ⟨-, rfl⟩
  · exact Memory.read_write_ne _ _ _ (hi.live_ne_head hc hk)
  · rfl

/-- Settles O19: offsets by `State.Inv.q_push`, indices by `State.Inv.live_ne_head`, storage by
`State.Inv.read_live_push`. -/
theorem pushLeavesLiveBytes : Obligations.PushLeavesLiveBytes := by
  intro s t b hi h
  refine ⟨fun k hk => ?_, fun hc k hk => hi.live_ne_head hc hk, fun k hk => hi.read_live_push h hk⟩
  obtain ⟨added, hq⟩ := hi.q_push h
  rw [hq, List.getElem?_append_left (by rwa [q_length])]

/-- Settles O20: the window is the queue's first five bytes, and a push keeps those. -/
theorem pushLeavesHeadWindow : Obligations.PushLeavesHeadWindow := by
  intro s t b hi h5 h
  obtain ⟨b0, b1, b2, b3, b4, rest, hq⟩ := q_five h5
  obtain ⟨added, hadd⟩ := hi.q_push h
  have hqt : t.q = b0 :: b1 :: b2 :: b3 :: b4 :: (rest ++ added) := by rw [hadd, hq]; rfl
  have hNt : 0 < t.cfg.capacity := ringPush_cfg h ▸ hi.legal
  rw [window_of_q hi.legal hq, window_of_q hNt hqt]

/-! ## The frame of the four operations -/

theorem ringPush_frame {b : Byte} (h : ringPush b s = .next t) :
    { t with mem := s.mem, head := s.head, count := s.count, answer := s.answer } = s ∧
    (∀ a, a ≠ s.head → t.mem.read a = s.mem.read a) ∧
    (s.cfg.capacity ≤ s.count → t.head = s.head ∧ t.count = s.count ∧ ∀ a, t.mem.read a = s.mem.read a) := by
  rcases ringPush_next h with ⟨hc, rfl⟩ | ⟨-, rfl⟩
  · exact ⟨rfl, fun a ha => Memory.read_write_ne _ _ _ ha, fun hfull => absurd hc (Nat.not_lt.2 hfull)⟩
  · exact ⟨rfl, fun _ _ => rfl, fun _ => ⟨rfl, rfl, fun _ => rfl⟩⟩

theorem ringPop_frame (h : ringPop s = .next t) :
    { t with tail := s.tail, count := s.count, answer := s.answer } = s ∧ ∀ a, t.mem.read a = s.mem.read a := by
  obtain ⟨a, rfl | rfl⟩ := ringPop_next h
  · exact ⟨rfl, fun _ => rfl⟩
  · exact ⟨rfl, fun _ => rfl⟩

theorem reply_frame (s : State) (a : Answer) :
    { s.reply a with answer := s.answer } = s ∧ ∀ j, (s.reply a).mem.read j = s.mem.read j :=
  ⟨rfl, fun _ => rfl⟩

/-- Settles O21, operation by operation; PEEK and COUNT only reply. -/
theorem ringOperationsFrame : Obligations.RingOperationsFrame := by
  refine ⟨fun s t b h => ringPush_frame h, fun s t h => ringPop_frame h, fun s t i h => ?_, fun s t h => ?_⟩
  · obtain ⟨a, rfl⟩ := ringPeek_next h
    exact reply_frame s a
  · cases h
    exact reply_frame s _

/-! ## Runs over listed draws -/

@[simp] theorem State.realise_inputs (s : State) (cmd : Option TypedCommand) : (s.realise cmd).inputs = s.inputs := by
  match cmd with
  | some (.setOutput _) => rfl
  | some (.setPeriod _) => rfl
  | none => rfl

/-- A turn draws nothing more. -/
theorem TurnEffect.inputs_eq {turn : Turn} (he : TurnEffect s turn t) : t.inputs = s.inputs := by
  cases he with
  | scanned => simp
  | _ => rfl

theorem runInputs_nil (s : State) : runInputs s [] = .next { s with inputs := [] } := rfl

/-- A run over `i :: rest` that ends is a step on `i`, then a run over `rest`. -/
theorem runInputs_cons_next {i : Input} {rest : List Input} (h : runInputs s (i :: rest) = .next t) :
    ∃ u, step { s with inputs := i :: rest } = .next u ∧ runInputs u rest = .next t := by
  unfold runInputs at h
  cases hs : step { s with inputs := i :: rest } with
  | next u =>
    have hrest : u.inputs = rest := (step_effect hs).inputs_eq
    rw [List.length_cons, run_succ hs] at h
    subst hrest
    exact ⟨u, rfl, h⟩
  | fault r | refused r => simp [Host.Core.run, show Sys2Proof.core.step _ = _ from hs] at h

theorem State.Inv.withInputs (h : s.Inv) (inputs : List Input) : ({ s with inputs := inputs } : State).Inv :=
  have ⟨hring, hcons⟩ := State.inv_iff.1 h
  State.inv_iff.2 ⟨hring, hcons⟩

/-- A transitive relation that every step of the invariant's states establishes, the reset input apart, and that does
not see the draws to come, holds between the two ends of every run. -/
theorem State.Inv.runInputs_relates {R : State → State → Prop} (hdraws : ∀ s inputs, R s { s with inputs := inputs })
    (htrans : ∀ {s u t}, R s u → R u t → R s t)
    (hstep : ∀ {s t}, s.Inv → step s = .next t → s.nextInput.noReset = true → R s t) (inputs : List Input) :
    ∀ {s t}, s.Inv → (∀ i ∈ inputs, i.noReset = true) → runInputs s inputs = .next t → R s t := by
  induction inputs with
  | nil =>
    intro s t _ _ h
    cases h
    exact hdraws s []
  | cons i rest ih =>
    intro s t hi hr h
    obtain ⟨hri, hrest⟩ := List.forall_mem_cons.1 hr
    obtain ⟨u, hu, hrun⟩ := runInputs_cons_next h
    have hi' := hi.withInputs (i :: rest)
    have hsu : R s u := htrans (hdraws s (i :: rest)) (hstep hi' hu hri)
    exact htrans hsu (ih (stepKeepsInvariant _ _ hi' hu) hrest hrun)

/-! ## The order of the queue over runs -/

@[simp] theorem accepted_append (a b : List Event) : accepted (a ++ b) = accepted a ++ accepted b :=
  List.filterMap_append
@[simp] theorem accepted_stored (b : Byte) : accepted [.rx b .ok] = [b] := rfl

/-- `t` comes after `s`, and its queue is what is left of that of `s` and of the bytes accepted between (R60). -/
def State.FifoAfter (s t : State) : Prop :=
  ∃ events, t.trace = s.trace ++ events ∧ t.q <:+ s.q ++ accepted events

namespace State.FifoAfter

/-- Between the two states no byte was accepted. -/
theorem of_none_accepted {events : List Event} (htrace : t.trace = s.trace ++ events) (hacc : accepted events = [])
    (hq : t.q <:+ s.q) : s.FifoAfter t :=
  ⟨events, htrace, by rwa [hacc, List.append_nil]⟩

theorem trans (hsu : s.FifoAfter u) (hut : u.FifoAfter t) : s.FifoAfter t := by
  obtain ⟨e₁, htr₁, removed, hq₁⟩ := hsu
  obtain ⟨e₂, htr₂, hq₂⟩ := hut
  refine ⟨e₁ ++ e₂, by rw [htr₂, htr₁, List.append_assoc], ?_⟩
  calc t.q
    _ <:+ u.q ++ accepted e₂ := hq₂
    _ <:+ removed ++ (u.q ++ accepted e₂) := List.suffix_append ..
    _ = s.q ++ accepted (e₁ ++ e₂) := by rw [accepted_append, ← List.append_assoc, hq₁, List.append_assoc]

end State.FifoAfter

@[simp] theorem State.realise_trace (s : State) (cmd : Option TypedCommand) : (s.realise cmd).trace = s.trace := by
  match cmd with
  | some (.setOutput _) => rfl
  | some (.setPeriod _) => rfl
  | none => rfl

/-- A turn appends the byte it accepts, removes the oldest byte, or leaves the queue. -/
theorem TurnEffect.fifoAfter {turn : Turn} (h : s.Inv) (he : TurnEffect s turn t)
    (hr : ∀ kept, turn ≠ .reset kept) : s.FifoAfter t := by
  cases he with
  | stored b _ _ _ hc _ => exact ⟨[.rx b .ok], rfl, by simp [q_storeByte h hc]⟩
  | discarded =>
    have hq : s.removeOldest.q <:+ s.q := q_removeOldest s ▸ List.drop_suffix 1 s.q
    exact .of_none_accepted (List.append_nil _).symm rfl hq
  | scanned => exact .of_none_accepted (events := []) (by simp) rfl (by simp)
  | holds | foundEmpty => exact .of_none_accepted (List.append_nil _).symm rfl (List.suffix_refl s.q)
  | overran | reported | calledOutput | reportedUnderrun | calledPulse | sent =>
    exact .of_none_accepted (events := [_]) rfl rfl (List.suffix_refl s.q)
  | reset kept => exact absurd rfl (hr kept)

theorem step_fifoAfter (h : s.Inv) (hs : step s = .next t) (hr : s.nextInput.noReset = true) : s.FifoAfter t := by
  have hsample : s.sample.FifoAfter t := (step_effect hs).fifoAfter h.sample (turn_ne_reset_of_noReset hr)
  exact hsample

/-- Settles O53: every step, and so every run, leads to a state with `State.FifoAfter`; its events are those the trace
grew by. -/
theorem fifoOrderOverRuns : Obligations.FifoOrderOverRuns := by
  intro s t inputs hi hr hrun
  have hdraws (s : State) (inputs : List Input) : s.FifoAfter { s with inputs := inputs } :=
    .of_none_accepted (List.append_nil _).symm rfl (List.suffix_refl s.q)
  obtain ⟨events, htrace, hq⟩ := State.Inv.runInputs_relates hdraws .trans step_fifoAfter inputs hi hr hrun
  rwa [htrace, List.drop_left]

end Sys2Proof.Machine
end

section
/-! The family of 30_encoding.md: the class of a head window (R76), the decoder on what the encoder writes (R71, R73,
R78, R79, R84), and the return of the arrival handler that sends 'E' (R79, R211). -/

namespace Sys2Proof

/-! ## Bytes and classes -/

/-- Splitting a period into its two bytes loses nothing (R54, R78). -/
@[simp] theorem joinBytes_upperByte_lowerByte (p : U16) : joinBytes (upperByte p) (lowerByte p) = p := by
  apply BitVec.eq_of_getLsbD_eq
  intro i hi
  by_cases hlow : i < 8
  · simp [joinBytes, upperByte, lowerByte, hi, hlow]
  · have hrest : i - 8 < 8 := by omega
    simp [joinBytes, upperByte, lowerByte, hi, hlow, hrest, Nat.add_sub_of_le (Nat.le_of_not_lt hlow)]

theorem recognisedCommand_eq_false_iff (c : Byte) : recognisedCommand c = false ↔
    c ≠ Config.cmdSetPeriod ∧ c ≠ Config.cmdOutOn ∧ c ≠ Config.cmdOutOff := by
  simp [recognisedCommand, and_assoc]

theorem classify_of_ne_marker {m : Byte} (hm : m ≠ Config.marker) (c : Byte) : classify m c = .desync :=
  if_neg hm

theorem classify_of_unrecognised {c : Byte} (hc : recognisedCommand c = false) :
    classify Config.marker c = .invalid := by
  obtain ⟨hperiod, hon, hoff⟩ := (recognisedCommand_eq_false_iff c).1 hc
  simp [classify, hperiod, hon, hoff]

/-- Settles O3: off the marker by `classify_of_ne_marker`, after it by the four commands; a window's instruction is
defined by its class. -/
theorem classOfAHeadWindow : Obligations.ClassOfAHeadWindow :=
  ⟨fun _ fc hm => classify_of_ne_marker hm fc, rfl, rfl, rfl,
    fun fc hperiod hon hoff => classify_of_unrecognised ((recognisedCommand_eq_false_iff fc).2 ⟨hperiod, hon, hoff⟩),
    fun _ _ _ _ _ => rfl⟩

/-! ## The decoder on five bytes -/

theorem decodeFrame_of_ne_marker {m : Byte} (hm : m ≠ Config.marker) (c h l e : Byte) :
    decodeFrame ⟨m, c, h, l, e⟩ = .desync m c h l e := by
  simp [decodeFrame, classify_of_ne_marker hm]

theorem decodeFrame_of_unrecognised {c : Byte} (hc : recognisedCommand c = false) (h l e : Byte) :
    decodeFrame ⟨Config.marker, c, h, l, e⟩ = .invalid c h l e := by
  simp [decodeFrame, classify_of_unrecognised hc]

theorem decode_received_frame (f : Frame) : decode (.received f.toList) = .ok (decodeFrame f) := rfl

theorem decode_transmitted_frame (f : Frame) : decode (.transmitted f.toList) =
    if f = buildResponse (joinBytes f.b2 f.b3) then .ok (.response (joinBytes f.b2 f.b3))
    else .error (.notAResponse f) := rfl

theorem decode_transmitted_buildResponse (p : U16) :
    decode (.transmitted (buildResponse p).toList) = .ok (.response p) := by
  have hp : joinBytes (buildResponse p).b2 (buildResponse p).b3 = p := joinBytes_upperByte_lowerByte p
  rw [decode_transmitted_frame, hp, if_pos rfl]

/-- Settles O1, by the instruction: DESYNC and INVALID by their condition on the operands, RESPONSE by putting the
period's bytes together again; every other code is read as its constructor. -/
theorem decodeAfterEncode : Obligations.DecodeAfterEncode := by
  intro i hwf
  cases i with
  | desync m c h l e =>
    have hm : m ≠ Config.marker := by simpa [Instr.wellFormed] using hwf
    exact congrArg Except.ok (decodeFrame_of_ne_marker hm c h l e)
  | invalid c h l e =>
    have hc : recognisedCommand c = false := by simpa [Instr.wellFormed] using hwf
    exact congrArg Except.ok (decodeFrame_of_unrecognised hc h l e)
  | response p => exact decode_transmitted_buildResponse p
  | setperiod | outon | outoff | diagE | diagU | push | pop | peek | count => rfl

/-- Settles O4: each word is the encoding of a well-formed instruction. -/
theorem specWordsDecode : Obligations.SpecWordsDecode :=
  ⟨decodeAfterEncode (.setperiod 0x00#8 0x64#8 0x00#8) rfl, decodeAfterEncode (.outon 0x00#8 0x00#8 0x00#8) rfl,
    decodeAfterEncode (.outoff 0x11#8 0x22#8 0x33#8) rfl, decodeAfterEncode (.invalid 0x04#8 0x00#8 0x00#8 0x00#8) rfl,
    decodeAfterEncode (.desync 0x10#8 0xFF#8 0x01#8 0x00#8 0x64#8) rfl, decodeAfterEncode (.response 0xFF64#16) rfl,
    decodeAfterEncode .diagE rfl, decodeAfterEncode .diagU rfl⟩

/-! ## Windows and transmitted frames -/

/-- A well-formed instruction with a window's bytes is the one read from it. -/
theorem eq_decodeFrame_of_encode {i : Instr} {f : Frame} (hwf : i.wellFormed = true)
    (henc : encode i = .received f.toList) : i = decodeFrame f := by
  have hdec : decode (encode i) = .ok i := decodeAfterEncode i hwf
  rw [henc, decode_received_frame] at hdec
  exact (Except.ok.inj hdec).symm

/-- Every window has the bytes of some well-formed instruction, in the order R76 tests. -/
theorem exists_wellFormed_encode_eq (f : Frame) :
    ∃ i : Instr, i.wellFormed = true ∧ encode i = .received f.toList := by
  obtain ⟨m, c, h, l, e⟩ := f
  by_cases hm : m = Config.marker
  · subst hm
    by_cases hperiod : c = Config.cmdSetPeriod
    · exact ⟨.setperiod h l e, rfl, hperiod ▸ rfl⟩
    by_cases hon : c = Config.cmdOutOn
    · exact ⟨.outon h l e, rfl, hon ▸ rfl⟩
    by_cases hoff : c = Config.cmdOutOff
    · exact ⟨.outoff h l e, rfl, hoff ▸ rfl⟩
    have hc : recognisedCommand c = false := (recognisedCommand_eq_false_iff c).2 ⟨hperiod, hon, hoff⟩
    exact ⟨.invalid c h l e, by simp [Instr.wellFormed, hc], rfl⟩
  · exact ⟨.desync m c h l e, by simpa [Instr.wellFormed] using hm, rfl⟩

/-- Settles O2: some well-formed instruction has the window's bytes, and every such one is the one read from it. -/
theorem everyWindowStandsForOneInstruction : Obligations.EveryWindowStandsForOneInstruction := by
  intro f
  obtain ⟨i, hwf, henc⟩ := exists_wellFormed_encode_eq f
  obtain rfl := eq_decodeFrame_of_encode hwf henc
  exact ⟨hwf, henc, fun _ => eq_decodeFrame_of_encode⟩

/-- Settles O5: the decoder accepts five transmitted bytes only where they are the frame of the period in them. -/
theorem transmittedFramesAreResponses : Obligations.TransmittedFramesAreResponses := by
  intro f i h
  rw [decode_transmitted_frame] at h
  split at h
  next hf => exact ⟨_, (Except.ok.inj h).symm, hf⟩
  next => cases h

end Sys2Proof

namespace Sys2Proof.Machine

variable {s t : State}

/-! ## The return of the arrival handler -/

theorem producerStep_of_enabled (hp : s.pst = .diag) (hr : s.txReady = true) :
    producerStep s = .next (s.emit (.tx diagOverrun)).handlerReturn :=
  (producerStep_of_handler hp).trans (if_pos hr)

/-- An accept turn that does not overrun leaves the handler not running (R202, R211). -/
theorem TurnEffect.accept_pst_idle (he : TurnEffect s .accept t) (hp : s.pst = .idle)
    (hc : s.count < s.cfg.capacity) : t.pst = .idle := by
  cases he with
  | holds => exact hp
  | stored => rfl
  | overran _ _ _ _ hfull => exact absurd hc (Nat.not_lt.2 hfull)

/-- Settles O38: the 'E' ends the handler, a push that succeeds never starts it, and while it runs ACCEPT is not
enabled. -/
theorem handlerReturnsToConsumer : Obligations.HandlerReturnsToConsumer := by
  intro s t
  refine ⟨fun hturn hp hr => ?_, fun hturn hp hc hs => ?_, fun hturn hp => ?_⟩
  · rw [step, hturn]
    exact producerStep_of_enabled (s := s.sample) hp hr
  · have he : TurnEffect s.sample .accept t := hturn ▸ step_effect hs
    exact he.accept_pst_idle hp hc
  · have hdisabled : ¬ s.sample.acceptEnabled := fun ⟨hidle, _⟩ => by cases hp.symm.trans hidle
    rw [step, hturn]
    exact acceptStep_of_not_enabled hdisabled

end Sys2Proof.Machine
end

section
/-! The family of 40_ringbuffer.md: what PUSH, POP, PEEK and COUNT answer and write (R100 to R103, R106, R107, R109), the
order in which pushed bytes are popped (R104, R105, R108), and the two steps built on them: an accepted byte (R202) and
a discard (R128). -/

namespace Sys2Proof.Machine

variable {s t u : State}

/-! ## The operations outside the invariant

A push and a pop read one register beside `count`: `head` and `tail`, which must name a storage byte. -/

theorem ringPush_stores (hc : s.count < s.cfg.capacity) (hh : s.head < s.cfg.capacity) (b : Byte) :
    ringPush b s = .next ((s.storeByte b).reply (.pushed .ok)) := by
  simp [ringPush, pushStatus, hc, hh]

theorem ringPop_removes (hc : 0 < s.count) (ht : s.tail < s.cfg.capacity) :
    ringPop s = .next (s.removeOldest.reply (.popped (s.mem.read s.tail) .ok)) := by
  simp [ringPop, State.memRead, orFault, hc, ht]

theorem ringPeek_eq (hN : 0 < s.cfg.capacity) (i : Nat) :
    ringPeek i s = .next (s.reply (.peeked (s.q.getD i Config.sentinel))) := by
  rw [ringPeek, peekByte_q hN, orFault]

theorem pushStatus_of_room (hc : s.count < s.cfg.capacity) : pushStatus s = .ok := if_pos hc

theorem pushStatus_of_full (hc : s.cfg.capacity ≤ s.count) : pushStatus s = .overrun := if_neg (Nat.not_lt.2 hc)

theorem popStatus_of_queued (hc : 0 < s.count) : popStatus s = .ok := if_pos hc

theorem popStatus_of_empty (hc : s.count = 0) : popStatus s = emptyPopStatus s.cfg := if_neg (by simp [hc])

theorem emptyPopStatus_of_signal {c : Config} (h : c.underrunDiag = .signal) : emptyPopStatus c = .underrun := by
  rw [emptyPopStatus, h]

theorem emptyPopStatus_of_silent {c : Config} (h : c.underrunDiag = .silent) : emptyPopStatus c = .ok := by
  rw [emptyPopStatus, h]

/-- Settles O12: the two clauses are `ringPush_stores` and `ringPush_overruns`. -/
theorem pushStoresOrOverruns : Obligations.PushStoresOrOverruns := fun _ b =>
  ⟨fun hc hh => ringPush_stores hc hh b, fun hc => ringPush_overruns hc b⟩

/-- Settles O13: with a byte queued by `ringPop_removes`; on an empty buffer the status is the variant's. -/
theorem popRemovesOldestOrAnswersSentinel : Obligations.PopRemovesOldestOrAnswersSentinel := by
  intro s
  refine ⟨ringPop_removes, fun hc hsig => ?_, fun hc hsil => ?_⟩
  · rw [← emptyPopStatus_of_signal hsig]
    exact ringPop_empty hc
  · rw [← emptyPopStatus_of_silent hsil]
    exact ringPop_empty hc

/-- Settles O14: a peek answers the queue's element at the offset, the sentinel from the queue's length on. -/
theorem peekAnswersQueueOrSentinel : Obligations.PeekAnswersQueueOrSentinel := by
  intro s i hN
  have hpeek : exec (.peek i) s = .next (s.reply (.peeked (s.q.getD i Config.sentinel))) := ringPeek_eq hN i
  refine ⟨fun h => ?_, fun hc => ?_, q_length s⟩
  · rw [hpeek, List.getD_eq_getElem _ _ h]; rfl
  · rw [hpeek, List.getD_eq_default _ _ (q_length s ▸ hc)]; rfl

/-- Settles O15: COUNT only replies, and `count` is the queue's length. -/
theorem countAnswersLiveElements : Obligations.CountAnswersLiveElements := fun s => ⟨rfl, q_length s⟩

/-! ## An accepted byte -/

theorem acceptStep_stores {b : Byte} {rest : List Byte} (hp : s.pst = .idle) (hrx : s.rx = b :: rest)
    (hc : s.count < s.cfg.capacity) (hh : s.head < s.cfg.capacity) :
    acceptStep s = .next (((s.storeByte b).reply (.pushed .ok)).handlerEntry b .ok) := by
  rw [acceptStep_pushes hp hrx, ringPush_stores hc hh, pushStatus_of_room hc]; rfl

theorem acceptStep_overruns {b : Byte} {rest : List Byte} (hp : s.pst = .idle) (hrx : s.rx = b :: rest)
    (hc : s.cfg.capacity ≤ s.count) :
    acceptStep s = .next ((s.reply (.pushed .overrun)).handlerEntry b .overrun) := by
  rw [acceptStep_pushes hp hrx, ringPush_overruns hc, pushStatus_of_full hc]; rfl

/-- Settles O35: below capacity by `acceptStep_stores`, at it by `acceptStep_overruns`; what is offered afterwards is
the tail of what was. -/
theorem acceptedByteStep : Obligations.AcceptedByteStep := by
  intro s b rest hturn hp hrx
  have hstep : step s = acceptStep s.sample := by rw [step, hturn]; rfl
  have hrest : rest = s.sample.rx.tail := (congrArg List.tail hrx).symm
  refine ⟨fun hc hh => ?_, fun hc => ?_⟩
  · rw [hstep, acceptStep_stores (s := s.sample) hp hrx hc hh, hrest]; rfl
  · rw [hstep, acceptStep_overruns (s := s.sample) hp hrx hc, hrest]; rfl

/-! ## A discard -/

/-- After a pop that answers OK the discards go on until the last one, which leads to `dnext` (R128). -/
theorem State.afterDiscard_ok (hd : 0 < s.drop) : s.afterDiscard .ok =
    { s with drop := s.drop - 1, cst := if s.drop = 1 then s.dnext.toCState else .drop } := by
  have hlast : s.drop - 1 = 0 ↔ s.drop = 1 := by omega
  simp only [State.afterDiscard, hlast]

theorem discardStep_pops (hd : 0 < s.drop) :
    discardStep s = thenUpdate (ringPop s) fun t => t.afterDiscard (popStatus s) :=
  if_neg hd.ne'

theorem discardStep_removes (hd : 0 < s.drop) (hc : 0 < s.count) (ht : s.tail < s.cfg.capacity) :
    discardStep s = .next ((s.removeOldest.reply (.popped (s.mem.read s.tail) .ok)).afterDiscard .ok) := by
  rw [discardStep_pops hd, ringPop_removes hc ht, popStatus_of_queued hc]; rfl

theorem discardStep_of_empty (hd : 0 < s.drop) (hc : s.count = 0) : discardStep s =
    .next ((s.reply (.popped Config.sentinel (emptyPopStatus s.cfg))).afterDiscard (emptyPopStatus s.cfg)) := by
  rw [discardStep_pops hd, ringPop_empty hc, popStatus_of_empty hc]; rfl

theorem step_discards (hturn : s.nextInput.turn = .consumer) (hp : s.pst = .idle) (hcst : s.cst = .drop) :
    step s = discardStep s.sample := by
  rw [step, hturn]
  exact consumerStep_discards (s := s.sample) hp hcst

/-- Under the invariant a discard finds a byte (R129) and removes it. -/
theorem State.Inv.step_discards_oldest (h : s.Inv) (hturn : s.nextInput.turn = .consumer) (hp : s.pst = .idle)
    (hcst : s.cst = .drop) :
    ∃ t, step s = .next t ∧ t.q = s.q.drop 1 ∧ t.count + 1 = s.count ∧ t.drop + 1 = s.drop ∧ t.trace = s.trace ∧
      t.cst = if s.drop = 1 then s.dnext.toCState else .drop := by
  obtain ⟨hd, hq⟩ := h.dropQueued hcst
  refine ⟨_, (step_discards hturn hp hcst).trans (h.sample.discardStep_removes hcst), ?_, ?_, ?_, rfl, ?_⟩
  · simp [q_removeOldest]
  · exact Nat.sub_add_cancel (hd.trans hq)
  · exact Nat.sub_add_cancel hd
  · exact congrArg State.cst (State.afterDiscard_ok (s := s.sample.removeOldest.reply _) hd)

/-- Settles O39: under the invariant by `State.Inv.step_discards_oldest`; in any state by the pop's three outcomes. The
name `discardStep` is the model's. -/
theorem discardStep_spec : Obligations.DiscardStep := by
  refine ⟨fun s h hturn hp hcst => ?_, fun s hturn hp hcst hd => ?_⟩
  · obtain ⟨t, ht, hq, hcount, hdrop, htrace, hnext⟩ := h.step_discards_oldest hturn hp hcst
    refine ⟨t, ht, hq, hcount, hdrop, htrace, fun hgt => ?_, fun hlast hdn => ?_, fun hlast hdn => ?_⟩
    · rw [hnext, if_neg hgt.ne']
    · rw [hnext, if_pos hlast, hdn]; rfl
    · rw [hnext, if_pos hlast, hdn]; rfl
  · rw [step_discards hturn hp hcst]
    have hempty (hc : s.count = 0) := discardStep_of_empty (s := s.sample) hd hc
    refine ⟨fun hc ht => ?_, fun hc hsig => ?_, fun hc hsil => ?_⟩
    · rw [discardStep_removes (s := s.sample) hd hc ht]
      exact congrArg _ (State.afterDiscard_ok hd)
    · rw [hempty hc, State.sample_cfg, emptyPopStatus_of_signal hsig]; rfl
    · rw [hempty hc, State.sample_cfg, emptyPopStatus_of_silent hsil]
      exact congrArg _ (State.afterDiscard_ok hd)

/-! ## The order of pushes and pops -/

/-- A push below capacity keeps the invariant. -/
theorem State.Inv.storeByte_reply (h : s.Inv) (hc : s.count < s.cfg.capacity) (b : Byte) (a : Answer) :
    ((s.storeByte b).reply a).Inv :=
  have ⟨hring, hcons⟩ := State.inv_iff.1 h
  State.inv_iff.2 ⟨hring.store hc b, hcons.succ_count⟩

theorem State.Inv.push_appends (h : s.Inv) (hc : s.count < s.cfg.capacity) (b : Byte) :
    ∃ t, exec (.push b) s = .next t ∧ t.answer = .pushed .ok ∧ t.Inv ∧ t.cfg = s.cfg ∧ t.q = s.q ++ [b] :=
  ⟨_, h.ringPush_stores hc b, rfl, h.storeByte_reply hc b _, rfl, by simp [q_storeByte h hc]⟩

theorem q_eq_cons (hc : 0 < s.count) (ht : s.tail < s.cfg.capacity) :
    s.q = s.mem.read s.tail :: s.removeOldest.q := by
  have hhead : s.q.head? = some (s.mem.read s.tail) := by
    rw [List.head?_eq_getElem?, q_getElem?, if_pos hc, Nat.add_zero, Nat.mod_eq_of_lt ht]
  rw [q_removeOldest, List.drop_one, List.cons_head?_tail hhead]

/-- A pop answers the queue's first byte and leaves the rest. It may break the consumer's half of the invariant, whose
`drop` it does not lower; of the other half the next pop needs `tail` alone. -/
theorem pop_takes_head (ht : s.tail < s.cfg.capacity) {e : Byte} {rest : List Byte} (hq : s.q = e :: rest) :
    ∃ t, exec .pop s = .next t ∧ t.answer = .popped e .ok ∧ t.q = rest ∧ t.tail < t.cfg.capacity := by
  have hc : 0 < s.count := by rw [← q_length, hq]; exact Nat.succ_pos _
  obtain ⟨rfl, rfl⟩ := List.cons.inj ((q_eq_cons hc ht).symm.trans hq)
  exact ⟨_, ringPop_removes hc ht, rfl, q_reply _ _, Nat.mod_lt _ (Nat.zero_lt_of_lt ht)⟩

/-- Settles O17: the push appends `b` to the queue, and the pop takes the head of what results. -/
theorem pushThenPopReturnsOldest : Obligations.PushThenPopReturnsOldest := by
  intro s b h hc
  obtain ⟨t, hpush, hpushed, hit, -, hq⟩ := h.push_appends hc b
  cases hs : s.q with
  | nil =>
    rw [hs] at hq
    obtain ⟨u, hpop, hpopped, hqu, -⟩ := pop_takes_head hit.tailIn hq
    have hcount : u.count = s.count := by rw [← q_length, ← q_length, hqu, hs]
    exact ⟨t, u, hpush, hpushed, hpop, hcount, fun _ => ⟨hpopped, hqu⟩, nofun⟩
  | cons e rest =>
    rw [hs] at hq
    obtain ⟨u, hpop, hpopped, hqu, -⟩ := pop_takes_head hit.tailIn hq
    have hcount : u.count = s.count := by rw [← q_length, ← q_length, hqu, hs]; simp
    refine ⟨t, u, hpush, hpushed, hpop, hcount, nofun, fun _ _ heq => ?_⟩
    cases heq
    exact ⟨hpopped, hqu⟩

/-! ## Runs of requests -/

theorem runAnswers_cons {i : Instr} {is : List Instr} (h : exec i s = .next t) :
    runAnswers (i :: is) s = (runAnswers is t).map fun r => (t.answer :: r.1, r.2) := by
  simp only [runAnswers, h]

theorem runAnswers_append {is js : List Instr} {as bs : List Answer} (hi : runAnswers is s = some (as, t))
    (hj : runAnswers js t = some (bs, u)) : runAnswers (is ++ js) s = some (as ++ bs, u) := by
  induction is generalizing s as with
  | nil =>
    cases hi
    exact hj
  | cons i is ih =>
    cases hx : exec i s with
    | next v =>
      rw [runAnswers_cons hx] at hi
      obtain ⟨⟨as', t'⟩, hrun, heq⟩ := Option.map_eq_some_iff.1 hi
      cases heq
      rw [List.cons_append, runAnswers_cons hx, ih hrun]; rfl
    | fault r | refused r => simp [runAnswers, hx] at hi

/-- Pushes that fit all answer OK and append their bytes in order. -/
theorem State.Inv.runAnswers_pushes (bs : List Byte) : ∀ {s : State}, s.Inv → s.count + bs.length ≤ s.cfg.capacity →
    ∃ t, runAnswers (bs.map .push) s = some (List.replicate bs.length (.pushed .ok), t) ∧ t.Inv ∧ t.q = s.q ++ bs := by
  induction bs with
  | nil => exact fun {s} h _ => ⟨s, rfl, h, (List.append_nil _).symm⟩
  | cons b bs ih =>
    intro s h hfit
    rw [List.length_cons] at hfit
    obtain ⟨u, hpush, hpushed, hiu, hcfg, hqu⟩ := h.push_appends (by omega) b
    have hcount : u.count = s.count + 1 := by rw [← q_length, hqu, List.length_append, q_length]; rfl
    obtain ⟨t, hrun, hit, hqt⟩ := ih hiu (by rw [hcount, hcfg]; omega)
    refine ⟨t, ?_, hit, by rw [hqt, hqu, List.append_assoc]; rfl⟩
    rw [List.map_cons, runAnswers_cons hpush, hrun, hpushed]; rfl

/-- As many pops as bytes are queued answer the queue in order and empty it. -/
theorem runAnswers_pops (bs : List Byte) : ∀ {s : State}, s.tail < s.cfg.capacity → s.q = bs →
    ∃ t, runAnswers (List.replicate bs.length .pop) s = some (bs.map (.popped · .ok), t) ∧ t.q = [] := by
  induction bs with
  | nil => exact fun {s} _ hq => ⟨s, rfl, hq⟩
  | cons b bs ih =>
    intro s ht hq
    obtain ⟨u, hpop, hpopped, hqu, htu⟩ := pop_takes_head ht hq
    obtain ⟨t, hrun, hqt⟩ := ih htu hqu
    refine ⟨t, ?_, hqt⟩
    rw [List.length_cons, List.replicate_succ, runAnswers_cons hpop, hrun, hpopped]; rfl

/-- Settles O18: the pushes leave exactly their bytes queued, and the pops return the queue in order. -/
theorem poppedInPushedOrder : Obligations.PoppedInPushedOrder := by
  intro s bs h hempty hfit
  obtain ⟨t, hpushes, hit, hq⟩ := h.runAnswers_pushes bs (by omega)
  rw [q_of_count_zero hempty, List.nil_append] at hq
  obtain ⟨u, hpops, hqu⟩ := runAnswers_pops bs hit.tailIn hq
  exact ⟨u, runAnswers_append hpushes hpops, by rw [← q_length, hqu]; rfl⟩

end Sys2Proof.Machine
end

section
/-! The family of 41_scanner.md. First the steps: what a received frame's instruction does where its step is enabled
(R122 to R127) and where it is not, its frame, and the instruction each turn runs (R120, R202). -/

namespace Sys2Proof.Machine

variable {s t u : State}

/-! ## The guards of the consumer's operations -/

theorem consumerOnly_of_idle (hp : s.pst = .idle) (u : State) : consumerOnly s u = .next u := if_pos hp

theorem consumerOnly_of_handler (hp : s.pst = .diag) (u : State) : consumerOnly s u = .next s := if_neg (by simp [hp])

theorem transmitOnly_of_ready (hp : s.pst = .idle) (hr : s.txReady = true) (u : State) :
    transmitOnly s u = .next u :=
  (if_pos hr).trans (consumerOnly_of_idle hp u)

theorem scanPass_of_enabled (h : s.scanEnabled) (k : FrameClass) (w : Frame) :
    scanPass k w s = .next ((s.latch w).realise (typeCommand k w.b2 w.b3 w.b4)) := if_pos h

theorem scanPass_of_not_enabled (h : ¬ s.scanEnabled) (k : FrameClass) (w : Frame) : scanPass k w s = .next s :=
  if_neg h

theorem callOutput_of_idle (hp : s.pst = .idle) (v : Bool) :
    callOutput v s = .next ((s.emit (.out v)).startDrop (outputDrop s.cfg) .idle) := consumerOnly_of_idle hp _

theorem callPulseGenerator_of_idle (hp : s.pst = .idle) : callPulseGenerator s =
    .next ((s.emit (.pg s.period (dutyA s.period) (dutyB s.period))).startResponse s.period) :=
  consumerOnly_of_idle hp _

theorem sendResponseByte_of_ready (hp : s.pst = .idle) (hr : s.txReady = true) {b : Byte}
    (hb : frameByte s.rsp s.rsn = some b) : sendResponseByte s = .next (s.emit (.tx b)).advanceResponse := by
  rw [sendResponseByte, hb]
  exact transmitOnly_of_ready hp hr _

/-! ## The received frames as operations -/

theorem exec_outon_of_out (hcst : s.cst = .out) (h l e : Byte) : exec (.outon h l e) s = callOutput true s :=
  if_pos hcst

theorem exec_outoff_of_out (hcst : s.cst = .out) (h l e : Byte) : exec (.outoff h l e) s = callOutput false s :=
  if_pos hcst

theorem exec_setperiod_of_pg (hcst : s.cst = .pg) (h l e : Byte) : exec (.setperiod h l e) s = callPulseGenerator s :=
  if_pos hcst

theorem exec_outon_of_ne_out (hcst : s.cst ≠ .out) (h l e : Byte) :
    exec (.outon h l e) s = scanPass .outon ⟨Config.marker, Config.cmdOutOn, h, l, e⟩ s := if_neg hcst

theorem exec_outoff_of_ne_out (hcst : s.cst ≠ .out) (h l e : Byte) :
    exec (.outoff h l e) s = scanPass .outoff ⟨Config.marker, Config.cmdOutOff, h, l, e⟩ s := if_neg hcst

theorem exec_setperiod_of_ne_pg (hcst : s.cst ≠ .pg) (h l e : Byte) :
    exec (.setperiod h l e) s = scanPass .setperiod ⟨Config.marker, Config.cmdSetPeriod, h, l, e⟩ s := if_neg hcst

/-- Settles O23: both are scan passes in `S_IDLE`, and the guard of a scan pass holds. -/
theorem setOutputRecognition : Obligations.SetOutputRecognition := by
  intro s h l e hp hcst hc
  have hnot : s.cst ≠ .out := by simp [hcst]
  have hguard : s.scanEnabled := ⟨hp, hcst, hc⟩
  rw [exec_outon_of_ne_out hnot, exec_outoff_of_ne_out hnot, scanPass_of_enabled hguard, scanPass_of_enabled hguard]
  exact ⟨rfl, rfl⟩

/-- Settles O27: a scan pass whose guard fails holds, and so does a call while the handler runs. -/
theorem framesWaitForTheirState : Obligations.FramesWaitForTheirState := by
  intro s m c h l e hwait
  have hguard : ¬ s.scanEnabled := by
    rintro ⟨hp, hcst, hc⟩
    rcases hwait with hw | hw | hw
    · simp [hp] at hw
    · exact hw hcst
    · exact absurd hw (Nat.not_lt.2 hc)
  refine ⟨scanPass_of_not_enabled hguard _ _, scanPass_of_not_enabled hguard _ _, fun hout => ?_, fun hpg => ?_⟩
  · by_cases hcst : s.cst = .out
    · have hp : s.pst = .diag := hout.resolve_right (not_not_intro hcst)
      rw [exec_outon_of_out hcst, exec_outoff_of_out hcst]
      exact ⟨consumerOnly_of_handler hp _, consumerOnly_of_handler hp _⟩
    · rw [exec_outon_of_ne_out hcst, exec_outoff_of_ne_out hcst]
      exact ⟨scanPass_of_not_enabled hguard _ _, scanPass_of_not_enabled hguard _ _⟩
  · by_cases hcst : s.cst = .pg
    · have hp : s.pst = .diag := hpg.resolve_right (not_not_intro hcst)
      rw [exec_setperiod_of_pg hcst]
      exact consumerOnly_of_handler hp _
    · rw [exec_setperiod_of_ne_pg hcst]
      exact scanPass_of_not_enabled hguard _ _

/-! ## The frame of the received frames -/

/-- A scan pass that recognises no command. -/
theorem noCommand_frame {k : FrameClass} {w : Frame} (hk : typeCommand k w.b2 w.b3 w.b4 = none)
    (h : scanPass k w s = .next t) :
    { t with
      fm := s.fm, fc := s.fc, fh := s.fh, fl := s.fl, fe := s.fe, drop := s.drop, dnext := s.dnext,
      cst := s.cst } = s ∧ ∀ a, t.mem.read a = s.mem.read a := by
  rcases scanPass_next h with ⟨-, rfl⟩ | ⟨-, rfl⟩
  · rw [hk]; exact ⟨rfl, fun _ => rfl⟩
  · exact ⟨rfl, fun _ => rfl⟩

/-- The call of a SetOutput frame, or its recognition. -/
theorem setOutput_frame {p : Prop} [Decidable p] {v : Bool} {k : FrameClass} {w : Frame}
    (hk : typeCommand k w.b2 w.b3 w.b4 = some (.setOutput v))
    (h : (if p then callOutput v s else scanPass k w s) = .next t) :
    { t with
      fm := s.fm, fc := s.fc, fh := s.fh, fl := s.fl, fe := s.fe, drop := s.drop, dnext := s.dnext,
      cst := s.cst, outv := s.outv, trace := s.trace } = s ∧ ∀ a, t.mem.read a = s.mem.read a := by
  split at h
  · rcases consumerOnly_next h with ⟨-, rfl⟩ | ⟨-, rfl⟩ <;> exact ⟨rfl, fun _ => rfl⟩
  · rcases scanPass_next h with ⟨-, rfl⟩ | ⟨-, rfl⟩
    · rw [hk]; exact ⟨rfl, fun _ => rfl⟩
    · exact ⟨rfl, fun _ => rfl⟩

/-- The call of a SetPeriod frame, or its recognition. -/
theorem setPeriod_frame {h l e : Byte} (hx : exec (.setperiod h l e) s = .next t) :
    { t with
      fm := s.fm, fc := s.fc, fh := s.fh, fl := s.fl, fe := s.fe, drop := s.drop, dnext := s.dnext,
      cst := s.cst, period := s.period, rsp := s.rsp, rsn := s.rsn, trace := s.trace } = s ∧
    ∀ a, t.mem.read a = s.mem.read a := by
  by_cases hcst : s.cst = .pg
  · rw [exec_setperiod_of_pg hcst] at hx
    rcases consumerOnly_next hx with ⟨-, rfl⟩ | ⟨-, rfl⟩ <;> exact ⟨rfl, fun _ => rfl⟩
  · rw [exec_setperiod_of_ne_pg hcst] at hx
    rcases scanPass_next hx with ⟨-, rfl⟩ | ⟨-, rfl⟩ <;> exact ⟨rfl, fun _ => rfl⟩

/-- Settles O28, by the command a frame is: none, SetOutput, SetPeriod. -/
theorem receivedFramesFrame : Obligations.ReceivedFramesFrame := by
  intro s t m c h l e
  refine ⟨fun hx => ?_, fun hx => ?_, setPeriod_frame⟩
  · rcases hx with hx | hx
    · exact noCommand_frame rfl hx
    · exact noCommand_frame rfl hx
  · rcases hx with hx | hx
    · exact setOutput_frame rfl hx
    · exact setOutput_frame rfl hx

/-! ## The instruction a turn runs -/

theorem step_of_consumer_turn (hturn : s.nextInput.turn = .consumer) : step s = consumerStep s.sample := by
  rw [step, hturn]; rfl

/-- The window's bytes are read as the instruction of its class. -/
theorem scanStep_runs_decoded {w : Frame} {i : Instr} (hc : Config.frameLen ≤ s.count) (hw : s.window = .ok w)
    (hi : decode (.received w.toList) = .ok i) : scanStep s = exec i s := by
  have hi' : i = decodeFrame w := (Except.ok.inj hi).symm
  rw [scanStep, if_pos hc, hw, hi']; rfl

/-- Settles O34: the agent's step by its state, and in `S_IDLE` by the head window. -/
theorem stepRunsTheInstruction : Obligations.StepRunsTheInstruction := by
  intro s
  refine ⟨fun hturn hp => ?_, fun hturn => ?_, fun hturn hp b rest hrx => ?_⟩
  · rw [step_of_consumer_turn hturn]
    refine ⟨fun hcst hc w i hw hi => ?_, fun hcst h l e => ?_, fun hcst hd => ?_, fun hcst => ?_,
      fun hcst h l e => ?_, fun hcst p => ?_⟩
    · exact (consumerStep_scans (s := s.sample) hp hcst).trans (scanStep_runs_decoded (s := s.sample) hc hw hi)
    · rw [consumerStep_callsOutput (s := s.sample) hp hcst, State.sample_outv]
      cases s.outv with
      | true => exact (exec_outon_of_out (s := s.sample) hcst h l e).symm
      | false => exact (exec_outoff_of_out (s := s.sample) hcst h l e).symm
    · exact (consumerStep_discards (s := s.sample) hp hcst).trans (discardStep_pops (Nat.pos_of_ne_zero hd))
    · exact (consumerStep_sendsUnderrun (s := s.sample) hp hcst).trans (if_pos hcst).symm
    · rw [exec_setperiod_of_pg (s := s.sample) hcst]
      exact consumerStep_callsPulse (s := s.sample) hp hcst
    · rw [consumerStep_sendsResponse (s := s.sample) hp hcst]
      simp [exec, execResponse, hcst]
  · rw [step, hturn]; rfl
  · rw [step, hturn]
    exact acceptStep_pushes (s := s.sample) hp hrx

end Sys2Proof.Machine
end

section
/-! The family of 41_scanner.md: that the consumer steps exactly where R138 says, and that it never underruns (R129). -/

namespace Sys2Proof.Machine

variable {s t u : State}

/-! ## The consumer's enabled step -/

@[simp] theorem State.realise_pst (s : State) (cmd : Option TypedCommand) : (s.realise cmd).pst = s.pst := by
  match cmd with
  | some (.setOutput _) => rfl
  | some (.setPeriod _) => rfl
  | none => rfl

theorem State.realise_cst (s : State) (cmd : Option TypedCommand) :
    (s.realise cmd).cst = .out ∨ (s.realise cmd).cst = .drop := by
  match cmd with
  | some (.setOutput _) => exact .inl rfl
  | some (.setPeriod _) => exact .inr rfl
  | none => exact .inr rfl

/-- With five bytes queued in `S_IDLE` the scan pass realises the command of the head window (R122, R152). -/
theorem scanStep_realises (hN : 0 < s.cfg.capacity) (hp : s.pst = .idle) (hcst : s.cst = .idle) {m c h l e : Byte}
    {rest : List Byte} (hq : s.q = m :: c :: h :: l :: e :: rest) :
    scanStep s = .next ((s.latch ⟨m, c, h, l, e⟩).realise (typeCommand (classify m c) h l e)) := by
  have hc : Config.frameLen ≤ s.count := by rw [← q_length, hq]; simp [Config.frameLen]
  rw [scanStep, if_pos hc, window_of_q hN hq, orFault, exec_decodeFrame _ hcst,
    scanPass_of_enabled ⟨hp, hcst, hc⟩]

/-- An enabled consumer step answers a next state, and another one than it started from (R138). -/
theorem State.Inv.consumerStep_of_enabled (hi : s.Inv) (he : s.consumerEnabled) :
    ∃ t, consumerStep s = .next t ∧ t ≠ s := by
  obtain ⟨hp, hqueued, hready⟩ := he
  cases hcst : s.cst with
  | idle =>
    obtain ⟨m, c, h, l, e, rest, hq⟩ := q_five (hqueued hcst)
    refine ⟨_, (consumerStep_scans hp hcst).trans (scanStep_realises hi.legal hp hcst hq), fun heq => ?_⟩
    rcases (s.latch ⟨m, c, h, l, e⟩).realise_cst (typeCommand (classify m c) h l e) with hnext | hnext <;>
      simp [heq, hcst] at hnext
  | out =>
    refine ⟨_, (consumerStep_callsOutput hp hcst).trans (callOutput_of_idle hp _), fun heq => ?_⟩
    simpa [hcst] using congrArg State.cst heq
  | drop =>
    refine ⟨_, (consumerStep_discards hp hcst).trans (hi.discardStep_removes hcst), fun heq => ?_⟩
    have hdrop : s.drop - 1 = s.drop := congrArg State.drop heq
    have h1 : 1 ≤ s.drop := (hi.dropQueued hcst).1
    omega
  | udiag =>
    refine ⟨_, (consumerStep_sendsUnderrun hp hcst).trans (transmitOnly_of_ready hp (hready (.inr hcst)) _),
      fun heq => ?_⟩
    simpa using congrArg State.trace heq
  | pg =>
    refine ⟨_, (consumerStep_callsPulse hp hcst).trans (callPulseGenerator_of_idle hp), fun heq => ?_⟩
    simpa [hcst] using congrArg State.cst heq
  | tx =>
    obtain ⟨b, hb⟩ := frameByte_of_lt s.rsp (Nat.lt_succ_of_le (hi.sending hcst).1)
    refine ⟨_, (consumerStep_sendsResponse hp hcst).trans (sendResponseByte_of_ready hp (hready (.inl hcst)) hb),
      fun heq => ?_⟩
    simpa using congrArg State.trace heq

theorem State.Inv.consumerStep_of_not_enabled (hi : s.Inv) (he : ¬ s.consumerEnabled) : consumerStep s = .next s :=
  Machine.consumerStep_of_not_enabled (fun hcst => Nat.lt_succ_of_le (hi.sending hcst).1) he

theorem State.Inv.consumerStep_holds_iff (hi : s.Inv) : consumerStep s = .next s ↔ ¬ s.consumerEnabled := by
  refine ⟨fun hs he => ?_, hi.consumerStep_of_not_enabled⟩
  obtain ⟨t, ht, hne⟩ := hi.consumerStep_of_enabled he
  rw [hs] at ht
  cases ht
  exact hne rfl

/-- The three cases of R138 are those in which the consumer is not enabled. -/
theorem State.not_consumerEnabled_iff (s : State) : ¬ s.consumerEnabled ↔
    s.pst = .diag ∨ (s.cst = .idle ∧ s.count < 5) ∨ ((s.cst = .tx ∨ s.cst = .udiag) ∧ s.txReady = false) := by
  cases hp : s.pst <;> simp [State.consumerEnabled, hp, imp_iff_not_or]

/-- Settles O40: a consumer turn is the consumer's step after the draw, and that holds exactly where it is not
enabled. -/
theorem consumerHoldsExactlyWhen : Obligations.ConsumerHoldsExactlyWhen := by
  intro s hi hturn
  rw [step_of_consumer_turn hturn, hi.sample.consumerStep_holds_iff]
  exact s.sample.not_consumerEnabled_iff

/-! ## No underrun -/

theorem State.Inv.takeTurn_answers (hi : s.Inv) (turn : Turn) : ∃ t, takeTurn s turn = .next t := by
  cases turn with
  | accept => exact acceptStep_answers hi.headIn
  | producer => exact producerStep_answers s
  | consumer =>
    by_cases he : s.consumerEnabled
    · obtain ⟨t, ht, -⟩ := hi.consumerStep_of_enabled he
      exact ⟨t, ht⟩
    · exact ⟨s, hi.consumerStep_of_not_enabled he⟩
  | reset kept => exact ⟨_, rfl⟩

theorem State.Inv.step_answers (hi : s.Inv) : ∃ t, step s = .next t := hi.sample.takeTurn_answers _

theorem DNext.toCState_ne_udiag (d : DNext) : d.toCState ≠ .udiag := by cases d <;> decide

/-- Only a discard that finds the queue empty leads to `S_UDIAG`, and the invariant excludes it (R129). -/
theorem TurnEffect.cst_ne_udiag {turn : Turn} (hi : s.Inv) (hne : s.cst ≠ .udiag) (he : TurnEffect s turn t) :
    t.cst ≠ .udiag := by
  cases he with
  | holds | stored | overran | reported => exact hne
  | scanned w =>
    rcases (s.latch w).realise_cst (typeCommand (classify w.b0 w.b1) w.b2 w.b3 w.b4) with hnext | hnext <;>
      simp [hnext]
  | calledOutput | calledPulse | reset => exact nofun
  | discarded =>
    rw [State.afterDiscard_cst_ok]
    split
    · exact DNext.toCState_ne_udiag _
    · exact nofun
  | foundEmpty _ hcst _ hempty =>
    obtain ⟨h1, hle⟩ := hi.dropQueued hcst
    omega
  | reportedUnderrun _ hcst => exact absurd hcst hne
  | sent =>
    rw [State.advanceResponse_cst]
    split <;> exact nofun

theorem State.Inv.step_cst_ne_udiag (hi : s.Inv) (hne : s.cst ≠ .udiag) (hs : step s = .next t) : t.cst ≠ .udiag :=
  (step_effect hs).cst_ne_udiag hi.sample hne

theorem State.Inv.queued_of_drop (hi : s.Inv) (hcst : s.cst = .drop) : 0 < s.count :=
  (hi.dropQueued hcst).1.trans (hi.dropQueued hcst).2

/-- Settles O51: the invariant and being outside `S_UDIAG` are kept by every step, hold at reset, and so hold at the end
of every run; in `S_DROP` the invariant has a byte queued. -/
theorem coreNeverUnderruns : Obligations.CoreNeverUnderruns := by
  refine ⟨fun s t hi hne hs => ?_, fun c inputs hc => ?_⟩
  · have ht : t.Inv := stepKeepsInvariant _ _ hi hs
    exact ⟨hi.step_cst_ne_udiag hne hs, ht.queued_of_drop⟩
  · have hreset : (State.resetWith c).Inv := resetMeetsInvariant c hc
    have hkeeps (s : State) (hs : s.Inv ∧ s.cst ≠ .udiag) : ∃ t, step s = .next t ∧ t.Inv ∧ t.cst ≠ .udiag := by
      obtain ⟨hi, hne⟩ := hs
      obtain ⟨t, ht⟩ := hi.step_answers
      exact ⟨t, ht, stepKeepsInvariant _ _ hi ht, hi.step_cst_ne_udiag hne ht⟩
    obtain ⟨t, ht, hit, hne⟩ := run_keeps hkeeps inputs.length { State.resetWith c with inputs := inputs }
      ⟨hreset.withInputs inputs, nofun⟩
    exact ⟨hreset, nofun, t, ht, hne, hit.queued_of_drop⟩

end Sys2Proof.Machine
end

section
/-! The family of 41_scanner.md: the work a recognised frame leaves the consumer (R133), done step by step, and with it
the effect of a scan pass (R122 to R128) and the scanner's progress (R132). -/

namespace Sys2Proof.Machine

variable {s t u : State}

/-! ## The work left -/

/-- What the consumer has still to do before it is back in `S_IDLE`: its steps, the events they append, and how many
bytes they remove. -/
structure Work where
  steps : Nat
  events : List Event
  removed : Nat

/-- After the last discard (R31): nothing, or the pulse generator's call and the five bytes of the response. -/
def DNext.work (p : U16) : DNext → Work
  | .idle => { steps := 0, events := [], removed := 0 }
  | .pg => { steps := 6, events := periodEvents p, removed := 0 }

/-- The discards, and what follows the last one (R128). -/
def State.discards (s : State) : Work :=
  { steps := s.drop + (s.dnext.work s.period).steps, events := (s.dnext.work s.period).events, removed := s.drop }

/-- The work left in each state of the consumer. -/
def State.work (s : State) : Work :=
  match s.cst with
  | .idle => DNext.idle.work s.period
  | .out => { steps := outputDrop s.cfg + 1, events := [.out s.outv], removed := outputDrop s.cfg }
  | .drop => s.discards
  | .udiag =>
    { steps := s.discards.steps + 1, events := .tx diagUnderrun :: s.discards.events, removed := s.discards.removed }
  | .pg => DNext.pg.work s.period
  | .tx => { steps := 5 - s.rsn, events := (s.rsp.toList.drop s.rsn).map .tx, removed := 0 }

/-- The work a scan pass finds in its window's command (R123 to R127). -/
def commandWork (c : Config) : Option TypedCommand → Work
  | some (.setOutput v) => { steps := outputDrop c + 1, events := [.out v], removed := outputDrop c }
  | some (.setPeriod p) => { steps := 11, events := periodEvents p, removed := 5 }
  | none => { steps := 1, events := [], removed := 1 }

theorem State.work_of_idle (h : s.cst = .idle) : s.work = DNext.idle.work s.period := by simp only [State.work, h]

theorem State.work_of_out (h : s.cst = .out) :
    s.work = { steps := outputDrop s.cfg + 1, events := [.out s.outv], removed := outputDrop s.cfg } := by
  simp only [State.work, h]

theorem State.work_of_drop (h : s.cst = .drop) : s.work = s.discards := by simp only [State.work, h]

theorem State.work_of_udiag (h : s.cst = .udiag) : s.work =
    { steps := s.discards.steps + 1, events := .tx diagUnderrun :: s.discards.events,
      removed := s.discards.removed } := by
  simp only [State.work, h]

theorem State.work_of_pg (h : s.cst = .pg) : s.work = DNext.pg.work s.period := by simp only [State.work, h]

theorem State.work_of_tx (h : s.cst = .tx) :
    s.work = { steps := 5 - s.rsn, events := (s.rsp.toList.drop s.rsn).map .tx, removed := 0 } := by
  simp only [State.work, h]

/-- Where the discards stand, the last one done included (R128, R178). -/
theorem State.work_of_discards (h : s.cst = if s.drop = 0 then s.dnext.toCState else .drop) :
    s.work = s.discards := by
  split at h
  next hd => cases hn : s.dnext <;> simp [State.work, State.discards, h, hd, hn, DNext.toCState, DNext.work]
  next => exact s.work_of_drop h

/-- Where the response stands, its last byte sent included (R175). -/
theorem State.work_of_sending (h : s.cst = if s.rsn = 5 then .idle else .tx) :
    s.work = { steps := 5 - s.rsn, events := (s.rsp.toList.drop s.rsn).map .tx, removed := 0 } := by
  split at h
  next hn => rw [s.work_of_idle h, hn]; rfl
  next => exact s.work_of_tx h

theorem State.work_realise (s : State) (w : Frame) (cmd : Option TypedCommand) :
    ((s.latch w).realise cmd).work = commandWork s.cfg cmd := by
  match cmd with
  | some (.setOutput _) => rfl
  | some (.setPeriod _) => rfl
  | none => rfl

theorem DNext.work_steps_le (p : U16) (d : DNext) : (d.work p).steps ≤ 6 := by
  cases d with
  | idle => exact Nat.zero_le _
  | pg => exact le_rfl

/-- In every state but `S_IDLE` there is a step to do, and there are at most twelve. -/
theorem State.Inv.work_steps_bounds (hi : s.Inv) : s.work.steps ≤ 12 ∧ (s.cst ≠ .idle → 0 < s.work.steps) := by
  have hnext := s.dnext.work_steps_le s.period
  have hdrop := hi.dropLe
  cases hcst : s.cst with
  | idle => exact ⟨by simp [s.work_of_idle hcst, DNext.work], fun h => absurd rfl h⟩
  | out =>
    have h5 := (outputDrop_bounds s.cfg).2
    simp only [s.work_of_out hcst]; omega
  | drop =>
    have h1 := (hi.dropQueued hcst).1
    simp only [s.work_of_drop hcst, State.discards]; omega
  | udiag => simp only [s.work_of_udiag hcst, State.discards]; omega
  | pg => simp [s.work_of_pg hcst, DNext.work]
  | tx =>
    have h4 := (hi.sending hcst).1
    simp only [s.work_of_tx hcst]; omega

theorem commandWork_bounds (c : Config) (cmd : Option TypedCommand) :
    (commandWork c cmd).steps ≤ 11 ∧ 1 ≤ (commandWork c cmd).removed := by
  have ⟨h1, h5⟩ := outputDrop_bounds c
  match cmd with
  | some (.setOutput _) => exact ⟨by simp only [commandWork]; omega, h1⟩
  | some (.setPeriod _) => exact ⟨le_rfl, Nat.succ_pos _⟩
  | none => exact ⟨Nat.succ_pos _, le_rfl⟩

/-! ## One consumer turn -/

theorem TurnEffect.consumer_pst (he : TurnEffect s .consumer t) : t.pst = s.pst := by
  cases he with
  | scanned => simp
  | holds | calledOutput | discarded | foundEmpty | reportedUnderrun | calledPulse | sent => rfl

/-- `t` is one step further on the work of `s`. What follows the queue (`rest`) stays what follows it. -/
structure State.WorksOn (s t : State) : Prop where
  steps : t.work.steps + 1 = s.work.steps
  events : t.trace ++ t.work.events = s.trace ++ s.work.events
  queue (rest : List Byte) : (t.q ++ rest).drop t.work.removed = (s.q ++ rest).drop s.work.removed

/-- Outside `S_IDLE` a consumer turn that does not hold does one step of the work left. -/
theorem TurnEffect.worksOn (hi : s.Inv) (he : TurnEffect s .consumer t) (hbusy : s.cst ≠ .idle) (hne : t ≠ s) :
    s.WorksOn t := by
  cases he with
  | holds => exact absurd rfl hne
  | scanned _ _ hcst => exact absurd hcst hbusy
  | calledOutput _ hcst =>
    refine ⟨?_, ?_, fun rest => ?_⟩ <;> rw [State.work_of_out hcst, State.work_of_drop rfl]
    · rfl
    · simp [State.discards, DNext.work]
    · rfl
  | discarded _ hcst hd hc ht =>
    have hq := q_eq_cons hc ht
    have hpred : s.drop - 1 + 1 = s.drop := Nat.sub_add_cancel (Nat.pos_of_ne_zero hd)
    refine ⟨?_, ?_, fun rest => ?_⟩ <;> rw [State.work_of_drop hcst, State.work_of_discards rfl]
    · simp only [State.discards, State.afterDiscard_drop, State.reply_drop, State.removeOldest_drop]
      exact (Nat.add_right_comm ..).trans (congrArg (· + _) hpred)
    · rfl
    · rw [hq, show s.discards.removed = s.drop - 1 + 1 from hpred.symm]; rfl
  | foundEmpty _ hcst _ hempty => exact absurd (hi.queued_of_drop hcst) (by omega)
  | reportedUnderrun _ hcst =>
    refine ⟨?_, ?_, fun rest => ?_⟩ <;> rw [State.work_of_udiag hcst, State.work_of_discards rfl]
    · rfl
    · simp [State.discards]
    · rfl
  | calledPulse _ hcst =>
    refine ⟨?_, ?_, fun rest => ?_⟩ <;> rw [State.work_of_pg hcst, State.work_of_tx rfl]
    · rfl
    · simp [DNext.work, periodEvents, responseEvents]
    · rfl
  | sent b _ hcst _ hb =>
    have hn : s.rsn < 5 := frameByte_lt hb
    have hget : s.rsp.toList[s.rsn]? = some b := hb
    have hnext : (s.emit (.tx b)).advanceResponse.cst = if s.rsn + 1 = 5 then .idle else .tx :=
      if_congr (by rw [State.emit_rsn]; omega) rfl rfl
    refine ⟨?_, ?_, fun rest => ?_⟩ <;> rw [State.work_of_tx hcst, State.work_of_sending hnext]
    · simp only [State.advanceResponse_rsn, State.emit_rsn]; omega
    · obtain ⟨hlt, hval⟩ := List.getElem?_eq_some_iff.1 hget
      simp [List.drop_eq_getElem_cons hlt, hval]
    · rfl

/-- In `S_IDLE` a consumer turn that does not hold realises the command of the head window. -/
theorem TurnEffect.realises (hN : 0 < s.cfg.capacity) (he : TurnEffect s .consumer t) (hcst : s.cst = .idle)
    (hne : t ≠ s) : ∃ m c h l e rest, s.q = m :: c :: h :: l :: e :: rest ∧
      t = (s.latch ⟨m, c, h, l, e⟩).realise (typeCommand (classify m c) h l e) := by
  cases he with
  | holds => exact absurd rfl hne
  | scanned w _ _ hc hw =>
    obtain ⟨m, c, h, l, e, rest, hq⟩ := q_five hc
    cases (window_of_q hN hq).symm.trans hw
    exact ⟨m, c, h, l, e, rest, hq, rfl⟩
  | calledOutput _ h | discarded _ h | foundEmpty _ h | reportedUnderrun _ h | calledPulse _ h | sent _ _ h =>
    simp [hcst] at h

/-! ## Runs of consumer turns -/

/-- `s` with the draw of a consumer turn taken: transmit ready, `rest` still to come. -/
def State.readied (s : State) (rest : List Input) : State := { s with txReady := true, inputs := rest }

theorem State.Inv.readied (hi : s.Inv) (rest : List Input) : (s.readied rest).Inv :=
  have ⟨hring, hcons⟩ := State.inv_iff.1 hi
  State.inv_iff.2 ⟨hring, hcons⟩

theorem runInputs_consumer_next {k : Nat} (h : consumerStep (s.readied (consumerTurns k)) = .next u) :
    runInputs s (consumerTurns (k + 1)) = runInputs u (consumerTurns k) := by
  have hdraw : ({ s with inputs := consumerTurns (k + 1) } : State).sample = s.readied (consumerTurns k) := by
    simp [State.sample, State.nextInput, consumerTurns, List.replicate_succ, readyInput, State.readied]
  have hstep : step { s with inputs := consumerTurns (k + 1) } = .next u :=
    (congrArg consumerStep hdraw).trans h
  have hinputs : u.inputs = consumerTurns k := (consumerStep_effect h).inputs_eq
  have hlen : (consumerTurns (k + 1)).length = (consumerTurns k).length + 1 := by simp [consumerTurns]
  rw [runInputs, hlen, run_succ hstep, runInputs, ← hinputs]

/-- With transmit ready a consumer that is not in `S_IDLE` below five bytes takes a step that does not hold. -/
theorem State.Inv.consumerTurn (hi : s.Inv) (hp : s.pst = .idle) (hgo : s.cst = .idle → 5 ≤ s.count) (k : Nat) :
    ∃ u, runInputs s (consumerTurns (k + 1)) = runInputs u (consumerTurns k) ∧ u.Inv ∧ u.pst = .idle ∧
      TurnEffect (s.readied (consumerTurns k)) .consumer u ∧ u ≠ s.readied (consumerTurns k) := by
  obtain ⟨u, hu, hne⟩ := (hi.readied (consumerTurns k)).consumerStep_of_enabled ⟨hp, hgo, fun _ => rfl⟩
  have he := consumerStep_effect hu
  exact ⟨u, runInputs_consumer_next hu, (hi.readied _).of_turnEffect he, he.consumer_pst.trans hp, he, hne⟩

theorem State.Inv.consumerTurn_works (hi : s.Inv) (hp : s.pst = .idle) (hbusy : s.cst ≠ .idle) (k : Nat) :
    ∃ u, runInputs s (consumerTurns (k + 1)) = runInputs u (consumerTurns k) ∧ u.Inv ∧ u.pst = .idle ∧
      s.WorksOn u := by
  obtain ⟨u, hrun, hiu, hpu, he, hne⟩ := hi.consumerTurn hp (fun hcst => absurd hcst hbusy) k
  obtain ⟨hsteps, hevents, hqueue⟩ := he.worksOn (hi.readied _) hbusy hne
  exact ⟨u, hrun, hiu, hpu, hsteps, hevents, hqueue⟩

theorem State.Inv.consumerTurn_scans (hi : s.Inv) (hp : s.pst = .idle) (hcst : s.cst = .idle) {m c h l e : Byte}
    {rest : List Byte} (hq : s.q = m :: c :: h :: l :: e :: rest) (k : Nat) :
    ∃ u, runInputs s (consumerTurns (k + 1)) = runInputs u (consumerTurns k) ∧ u.Inv ∧ u.pst = .idle ∧
      u.work = commandWork s.cfg (typeCommand (classify m c) h l e) ∧ u.trace = s.trace ∧ u.q = s.q := by
  have hc : 5 ≤ s.count := by rw [← q_length, hq]; simp
  obtain ⟨u, hrun, hiu, hpu, he, hne⟩ := hi.consumerTurn hp (fun _ => hc) k
  obtain ⟨_, _, _, _, _, _, hq', rfl⟩ := he.realises (s := s.readied (consumerTurns k)) hi.legal hcst hne
  cases hq.symm.trans hq'
  exact ⟨_, hrun, hiu, hpu, State.work_realise _ _ _, State.realise_trace _ _, q_realise _ _⟩

/-- As many consumer turns as there are steps of work do all of it and end in `S_IDLE`. -/
theorem State.Inv.run_work (hi : s.Inv) (hp : s.pst = .idle) :
    ∃ t, runInputs s (consumerTurns s.work.steps) = .next t ∧ t.cst = .idle ∧ t.q = s.q.drop s.work.removed ∧
      t.trace = s.trace ++ s.work.events := by
  induction hk : s.work.steps generalizing s with
  | zero =>
    have hcst : s.cst = .idle := by
      by_contra hbusy
      exact absurd (hi.work_steps_bounds.2 hbusy) (by omega)
    rw [s.work_of_idle hcst]
    exact ⟨_, runInputs_nil s, hcst, rfl, (List.append_nil _).symm⟩
  | succ k ih =>
    have hbusy : s.cst ≠ .idle := fun hcst => by simp [s.work_of_idle hcst, DNext.work] at hk
    obtain ⟨u, hrun, hiu, hpu, hsteps, hevents, hqueue⟩ := hi.consumerTurn_works hp hbusy k
    obtain ⟨t, ht, hcst, hq, htrace⟩ := ih hiu hpu (Nat.succ.inj (hsteps.trans hk))
    have hdrop : u.q.drop u.work.removed = s.q.drop s.work.removed := by simpa using hqueue []
    exact ⟨t, hrun.trans ht, hcst, hq.trans hdrop, htrace.trans hevents⟩

/-- A scan pass, and then the work of the command it finds. -/
theorem State.Inv.run_scanPass (hi : s.Inv) (hp : s.pst = .idle) (hcst : s.cst = .idle) {m c h l e : Byte}
    {rest : List Byte} (hq : s.q = m :: c :: h :: l :: e :: rest) {k : FrameClass} (hk : classify m c = k) :
    let w := commandWork s.cfg (typeCommand k h l e)
    ∃ t, runInputs s (consumerTurns (w.steps + 1)) = .next t ∧ t.cst = .idle ∧ t.q = s.q.drop w.removed ∧
      t.trace = s.trace ++ w.events := by
  intro w
  obtain ⟨u, hrun, hiu, hpu, hwork, htrace, hqu⟩ := hi.consumerTurn_scans hp hcst hq w.steps
  obtain ⟨t, ht, hend⟩ := hiu.run_work hpu
  have hw : u.work = w := by rw [hwork, hk]
  rw [hw] at ht
  rw [hw, hqu, htrace] at hend
  exact ⟨t, hrun.trans ht, hend⟩

/-! ## The statements about one frame -/

/-- Settles O54, by the class: the scan pass and the work of its command. -/
theorem netEffectOfAScanPass : Obligations.NetEffectOfAScanPass := by
  intro s hi hp hcst m c h l e rest hq
  cases hk : classify m c with
  | desync | invalid => simpa [typeCommand, commandWork] using hi.run_scanPass hp hcst hq hk
  | outon | outoff =>
    simpa [typeCommand, commandWork, Nat.add_comm 2] using hi.run_scanPass hp hcst hq hk
  | setperiod => simpa [typeCommand, commandWork, hq] using hi.run_scanPass hp hcst hq hk

/-- Settles O22: the scan pass of either class realises no command, and the work of that is one discard. -/
theorem failedMatchDiscardsOneByte : Obligations.FailedMatchDiscardsOneByte := by
  refine ⟨fun s m c h l e hp hcst hc => ?_, fun s hi hp hcst m c h l e rest hq hclass => ?_⟩
  · exact ⟨scanPass_of_enabled ⟨hp, hcst, hc⟩ .desync _, scanPass_of_enabled ⟨hp, hcst, hc⟩ .invalid _⟩
  · obtain ⟨t, ht, hidle, hqt, htrace⟩ : ∃ t, runInputs s (consumerTurns 2) = .next t ∧ t.cst = .idle ∧
        t.q = s.q.drop 1 ∧ t.trace = s.trace ++ [] := by
      rcases hclass with hk | hk
      · exact hi.run_scanPass hp hcst hq hk
      · exact hi.run_scanPass hp hcst hq hk
    exact ⟨t, ht, hidle, htrace.trans (List.append_nil _), by rw [hqt, hq]; rfl⟩

theorem outputDrop_eq (c : Config) : outputDrop c = if c.policy = .faithful then 1 else 5 := by
  cases hpol : c.policy <;> simp [outputDrop, hpol, Config.frameLen]

/-- Settles O24: the call is the step of `S_OUT`, and with the discards it is the work left there. -/
theorem setOutputCall : Obligations.SetOutputCall := by
  refine ⟨fun s h l e hp hcst => ?_, fun s hi hp hcst => ?_⟩
  · rw [exec_outon_of_out hcst, exec_outoff_of_out hcst, callOutput_of_idle hp, callOutput_of_idle hp,
      ← outputDrop_eq]
    exact ⟨rfl, rfl⟩
  · have hrun := hi.run_work hp
    rw [s.work_of_out hcst, outputDrop_eq] at hrun
    exact ⟨fun hpol => by simpa [hpol] using hrun, fun hpol => by simpa [hpol] using hrun⟩

/-- As many consumer turns as there are discards to do remove that many bytes, with no event, and lead to `dnext`. -/
theorem State.Inv.run_discards (hi : s.Inv) (hp : s.pst = .idle)
    (hcst : s.cst = if s.drop = 0 then s.dnext.toCState else .drop) :
    ∃ t, runInputs s (consumerTurns s.drop) = .next t ∧ t.cst = s.dnext.toCState ∧ t.q = s.q.drop s.drop ∧
      t.period = s.period ∧ t.trace = s.trace := by
  induction hn : s.drop generalizing s with
  | zero =>
    rw [if_pos hn] at hcst
    exact ⟨_, runInputs_nil s, hcst, rfl, rfl, rfl⟩
  | succ n ih =>
    rw [if_neg (by omega)] at hcst
    have hi' : (s.readied (consumerTurns n)).Inv := hi.readied _
    have hstep :=
      (consumerStep_discards (s := s.readied (consumerTurns n)) hp hcst).trans (hi'.discardStep_removes hcst)
    have hdrop : s.drop - 1 = n := by omega
    obtain ⟨t, ht, hnext, hq, hperiod, htrace⟩ :=
      ih (hi'.of_turnEffect (consumerStep_effect hstep)) hp (State.afterDiscard_cst_ok _) hdrop
    refine ⟨t, (runInputs_consumer_next hstep).trans ht, hnext, ?_, hperiod, htrace⟩
    rw [hq, q_afterDiscard, q_reply, q_removeOldest, List.drop_drop, Nat.add_comm 1]; rfl

/-- Settles O25: the scan pass's command is the decoded period, and its five discards precede the call. -/
theorem setPeriodRecognition : Obligations.SetPeriodRecognition := by
  refine ⟨fun s h l e hp hcst hc => ?_, fun s hi hp hcst hd hn => ?_⟩
  · rw [exec_setperiod_of_ne_pg (by simp [hcst]), scanPass_of_enabled ⟨hp, hcst, hc⟩]; rfl
  · have hrun := hi.run_discards hp (by rw [hcst, hd]; rfl)
    rwa [hd, hn] at hrun

/-- Settles O55: from `S_IDLE` below five bytes nothing is to do; with five queued it is a scan pass and the work it
finds, in any other state the work left. -/
theorem scanMakesProgress : Obligations.ScanMakesProgress := by
  intro s hi hp
  by_cases hscan : s.cst = .idle ∧ 5 ≤ s.count
  · obtain ⟨hcst, hc⟩ := hscan
    obtain ⟨m, c, h, l, e, rest, hq⟩ := q_five hc
    obtain ⟨t, ht, hidle, hqt, -⟩ := hi.run_scanPass hp hcst hq rfl
    obtain ⟨hsteps, hremoved⟩ := commandWork_bounds s.cfg (typeCommand (classify m c) h l e)
    refine ⟨_, t, Nat.succ_le_succ hsteps, ht, hidle, fun _ _ => ?_⟩
    rw [← q_length t, hqt, List.length_drop, q_length]
    omega
  · obtain ⟨t, ht, hidle, -⟩ := hi.run_work hp
    exact ⟨_, t, hi.work_steps_bounds.1, ht, hidle, fun hcst hc => absurd ⟨hcst, hc⟩ hscan⟩

end Sys2Proof.Machine
end

section
/-! The family of 41_scanner.md: the reference algorithm (R139, R140) as a loop of single scan passes, the account of
what a state comes to, and that the consumer keeps it until it is quiescent. -/

namespace Sys2Proof.Machine

variable {s t u : State}

/-! ## The reference algorithm, a scan pass at a time -/

/-- The scan passes of a queue until its guard fails: the events, and the queue left. -/
def drain (c : Config) (q : List Byte) : List Event × List Byte :=
  match q with
  | m :: cmd :: h :: l :: e :: rest =>
    let w := commandWork c (typeCommand (classify m cmd) h l e)
    let r := drain c ((m :: cmd :: h :: l :: e :: rest).drop w.removed)
    (w.events ++ r.1, r.2)
  | q => ([], q)
termination_by q.length
decreasing_by
  have h1 := (commandWork_bounds c (typeCommand (classify m cmd) h l e)).2
  simp only [List.length_drop, List.length_cons]
  omega

theorem drain_of_window (c : Config) (m cmd h l e : Byte) (rest : List Byte) :
    let w := commandWork c (typeCommand (classify m cmd) h l e)
    let r := drain c ((m :: cmd :: h :: l :: e :: rest).drop w.removed)
    drain c (m :: cmd :: h :: l :: e :: rest) = (w.events ++ r.1, r.2) := by
  rw [drain]

theorem exists_window {q : List Byte} (hq : 5 ≤ q.length) :
    ∃ m c h l e rest, q = m :: c :: h :: l :: e :: rest := by
  match q, hq with
  | m :: c :: h :: l :: e :: rest, _ => exact ⟨m, c, h, l, e, rest, rfl⟩

theorem drain_of_short (c : Config) {q : List Byte} (hq : q.length < 5) : drain c q = ([], q) := by
  match q, hq with
  | [], _ | [_], _ | [_, _], _ | [_, _, _], _ | [_, _, _, _], _ => rw [drain]; simp

/-- A cycle of the reference algorithm: scan passes up to a SetPeriod frame, which breaks it off. -/
theorem scanCycle_of_window (c : Config) (n : Nat) (m cmd h l e : Byte) (rest : List Byte) :
    let w := commandWork c (typeCommand (classify m cmd) h l e)
    let q' := (m :: cmd :: h :: l :: e :: rest).drop w.removed
    let r := if classify m cmd = .setperiod then ([], q') else scanCycle c n q'
    scanCycle c (n + 1) (m :: cmd :: h :: l :: e :: rest) = (w.events ++ r.1, r.2) := by
  by_cases hm : m = Config.marker
  · subst hm
    by_cases hperiod : cmd = Config.cmdSetPeriod
    · subst hperiod; exact Prod.ext (List.append_nil _).symm rfl
    by_cases hon : cmd = Config.cmdOutOn
    · subst hon; rfl
    by_cases hoff : cmd = Config.cmdOutOff
    · subst hoff; rfl
    have hk : classify Config.marker cmd = .invalid :=
      classify_of_unrecognised ((recognisedCommand_eq_false_iff cmd).2 ⟨hperiod, hon, hoff⟩)
    simp [scanCycle, hk, hperiod, hon, hoff, typeCommand, commandWork]
  · simp [scanCycle, classify_of_ne_marker hm, hm, typeCommand, commandWork]

theorem scanCycle_of_short (c : Config) (n : Nat) {q : List Byte} (hq : q.length < 5) : scanCycle c n q = ([], q) := by
  cases n with
  | zero => rfl
  | succ n =>
    match q, hq with
    | [], _ | [_], _ | [_, _], _ | [_, _, _], _ | [_, _, _, _], _ => rfl

/-- A cycle does the first scan passes of the whole loop. -/
theorem drain_scanCycle (c : Config) (n : Nat) : ∀ q, drain c q =
    ((scanCycle c n q).1 ++ (drain c (scanCycle c n q).2).1, (drain c (scanCycle c n q).2).2) := by
  induction n with
  | zero => exact fun q => rfl
  | succ n ih =>
    intro q
    rcases Nat.lt_or_ge q.length 5 with hq | hq
    · simp [scanCycle_of_short c (n + 1) hq]
    · obtain ⟨m, cmd, h, l, e, rest, rfl⟩ := exists_window hq
      rw [scanCycle_of_window, drain_of_window]
      split
      · simp
      · rw [ih (List.drop _ _)]
        simp

theorem scanCycle_suffix (c : Config) (n : Nat) : ∀ q, (scanCycle c n q).2 <:+ q := by
  induction n with
  | zero => exact fun q => List.suffix_refl q
  | succ n ih =>
    intro q
    rcases Nat.lt_or_ge q.length 5 with hq | hq
    · rw [scanCycle_of_short c _ hq]
    · obtain ⟨m, cmd, h, l, e, rest, rfl⟩ := exists_window hq
      rw [scanCycle_of_window]
      split
      · exact List.drop_suffix ..
      · exact (ih _).trans (List.drop_suffix ..)

/-- A cycle that finds its guard true removes a byte (R132). -/
theorem scanCycle_length_lt (c : Config) (n : Nat) {q : List Byte} (hq : 5 ≤ q.length) :
    (scanCycle c (n + 1) q).2.length < q.length := by
  obtain ⟨m, cmd, h, l, e, rest, rfl⟩ := exists_window hq
  have hdrop : ((m :: cmd :: h :: l :: e :: rest).drop
      (commandWork c (typeCommand (classify m cmd) h l e)).removed).length <
        (m :: cmd :: h :: l :: e :: rest).length := by
    have h1 := (commandWork_bounds c (typeCommand (classify m cmd) h l e)).2
    rw [List.length_drop, List.length_cons]
    omega
  rw [scanCycle_of_window]
  split
  · exact hdrop
  · exact (scanCycle_suffix c n _).length_le.trans_lt hdrop

/-- The reference algorithm, invoked until its guard fails, does the scan passes one after the other. -/
theorem pollLoop_eq_drain (c : Config) (n : Nat) : ∀ q, q.length ≤ n → pollLoop c n q = drain c q := by
  induction n with
  | zero => exact fun q hq => (drain_of_short c (hq.trans_lt (by decide))).symm
  | succ n ih =>
    intro q hq
    rw [pollLoop]
    split
    next hshort => exact (drain_of_short c hshort).symm
    next hlong =>
      obtain ⟨k, hk⟩ : ∃ k, q.length = k + 1 := Nat.exists_eq_succ_of_ne_zero (by omega)
      have hlt := scanCycle_length_lt c k (Nat.not_lt.1 hlong)
      have hrest := ih (scanCycle c (k + 1) q).2 (by omega)
      rw [drain_scanCycle c (k + 1) q, ← hrest, hk]

/-! ## The account of a state -/

/-- What a state comes to once `rest` is queued behind its queue and all is scanned: the trace, and the queue left. -/
def State.account (s : State) (rest : List Byte) : List Event × List Byte :=
  let r := drain s.cfg ((s.q ++ rest).drop s.work.removed)
  (s.trace ++ s.work.events ++ r.1, r.2)

theorem State.account_of_idle (hcst : s.cst = .idle) (rest : List Byte) : s.account rest =
    (s.trace ++ (drain s.cfg (s.q ++ rest)).1, (drain s.cfg (s.q ++ rest)).2) := by
  simp [State.account, s.work_of_idle hcst, DNext.work]

theorem State.account_of_quiescent (h : s.quiescent) : s.account [] = (s.trace, s.q) := by
  obtain ⟨-, hcst, hc⟩ := h
  rw [s.account_of_idle hcst, List.append_nil, drain_of_short _ (by rwa [q_length]), List.append_nil]

/-- A scan pass turns the head window into the work of its command. -/
theorem State.account_realise (hcst : s.cst = .idle) {m c h l e : Byte} {rest : List Byte}
    (hq : s.q = m :: c :: h :: l :: e :: rest) (behind : List Byte) :
    ((s.latch ⟨m, c, h, l, e⟩).realise (typeCommand (classify m c) h l e)).account behind = s.account behind := by
  rw [s.account_of_idle hcst, State.account, State.work_realise, State.realise_cfg, State.realise_trace, q_realise,
    State.latch_cfg, State.latch_trace, q_latch, hq]
  simp only [List.cons_append]
  rw [drain_of_window, ← List.append_assoc]

/-- The consumer's turns keep the account. -/
theorem TurnEffect.consumer_account (hi : s.Inv) (he : TurnEffect s .consumer t) (rest : List Byte) :
    t.account rest = s.account rest := by
  by_cases hne : t = s
  · rw [hne]
  by_cases hcst : s.cst = .idle
  · obtain ⟨_, _, _, _, _, _, hq, rfl⟩ := he.realises hi.legal hcst hne
    exact State.account_realise hcst hq rest
  · obtain ⟨-, hevents, hqueue⟩ := he.worksOn hi hcst hne
    rw [State.account, he.cfg_eq, hqueue, hevents]; rfl

/-! ## The way to quiescence -/

/-- An upper bound on the consumer's steps to quiescence: twelve for each byte that may yet be scanned. -/
def State.toGo (s : State) : Nat := s.work.steps + 12 * ((s.q.drop s.work.removed).length - 4)

theorem State.toGo_of_idle (hcst : s.cst = .idle) : s.toGo = 12 * (s.count - 4) := by
  simp [State.toGo, s.work_of_idle hcst, DNext.work, q_length]

theorem TurnEffect.toGo_lt (hi : s.Inv) (he : TurnEffect s .consumer t) (hne : t ≠ s) : t.toGo < s.toGo := by
  by_cases hcst : s.cst = .idle
  · obtain ⟨m, c, h, l, e, rest, hq, rfl⟩ := he.realises hi.legal hcst hne
    obtain ⟨h11, h1⟩ := commandWork_bounds s.cfg (typeCommand (classify m c) h l e)
    have hc : 5 ≤ s.count := by rw [← q_length, hq]; simp
    rw [s.toGo_of_idle hcst, State.toGo, State.work_realise, q_realise, q_latch, List.length_drop, q_length]
    omega
  · obtain ⟨hsteps, -, hqueue⟩ := he.worksOn hi hcst hne
    have hdrop : t.q.drop t.work.removed = s.q.drop s.work.removed := by simpa using hqueue []
    rw [State.toGo, State.toGo, hdrop]
    omega

theorem State.Inv.quiescent_of_toGo_eq_zero (hi : s.Inv) (hp : s.pst = .idle) (h : s.toGo = 0) : s.quiescent := by
  have hcst : s.cst = .idle := by
    by_contra hbusy
    have hpos := hi.work_steps_bounds.2 hbusy
    simp [State.toGo] at h
    omega
  rw [s.toGo_of_idle hcst] at h
  exact ⟨hp, hcst, by omega⟩

/-- With transmit ready every consumer turn is a step on the way, unless there is none left to do. -/
theorem State.Inv.toGo_le_pred (hi : s.Inv) (hp : s.pst = .idle) (hr : s.txReady = true)
    (hu : consumerStep s = .next u) : u.toGo ≤ s.toGo - 1 := by
  by_cases hne : u = s
  · rw [hne] at hu ⊢
    rcases s.not_consumerEnabled_iff.1 (hi.consumerStep_holds_iff.1 hu) with hdiag | ⟨hcst, hc⟩ | ⟨-, hwait⟩
    · simp [hp] at hdiag
    · rw [s.toGo_of_idle hcst]; omega
    · simp [hr] at hwait
  · have hlt := (consumerStep_effect hu).toGo_lt hi hne
    omega

/-- Enough consumer turns lead to quiescence, and to what the account says. -/
theorem State.Inv.run_to_quiescence (k : Nat) : ∀ {s : State}, s.Inv → s.pst = .idle → s.toGo ≤ k →
    ∃ t, runInputs s (consumerTurns k) = .next t ∧ t.quiescent ∧ (t.trace, t.q) = s.account [] := by
  induction k with
  | zero =>
    intro s hi hp hgo
    have hquiet := hi.quiescent_of_toGo_eq_zero hp (Nat.le_zero.1 hgo)
    exact ⟨_, runInputs_nil s, hquiet, (State.account_of_quiescent hquiet).symm⟩
  | succ k ih =>
    intro s hi hp hgo
    have hi' := hi.readied (consumerTurns k)
    obtain ⟨u, hu⟩ := hi'.takeTurn_answers .consumer
    have he : TurnEffect (s.readied (consumerTurns k)) .consumer u := takeTurn_effect hu
    have hgo' : u.toGo ≤ k := (hi'.toGo_le_pred hp rfl hu).trans (Nat.sub_le_of_le_add hgo)
    obtain ⟨t, ht, hquiet, haccount⟩ := ih (hi'.of_turnEffect he) (he.consumer_pst.trans hp) hgo'
    exact ⟨t, (runInputs_consumer_next hu).trans ht, hquiet, haccount.trans (he.consumer_account hi' [])⟩

/-- Settles O57: the queue's passes are those of the reference algorithm, and the account is theirs. -/
theorem consumerPerformsReferenceAlgorithm : Obligations.ConsumerPerformsReferenceAlgorithm := by
  intro s hi hp hcst
  obtain ⟨t, ht, hquiet, haccount⟩ := hi.run_to_quiescence s.toGo hp le_rfl
  rw [s.account_of_idle hcst, List.append_nil, ← pollLoop_eq_drain _ s.count _ (q_length s).le] at haccount
  obtain ⟨htrace, hq⟩ := Prod.ext_iff.1 haccount
  exact ⟨_, t, ht, hquiet, htrace, hq⟩

end Sys2Proof.Machine
end

section
/-! The family of 41_scanner.md: what a run comes to whatever the schedule of its arrivals (R141), and what a safe
stream comes to (R256). -/

namespace Sys2Proof.Machine

variable {s t u : State}

/-! ## The outcome of a state -/

/-- The account of a state, its arrivals left out. -/
def State.outcome (s : State) (rest : List Byte) : List Event × List Byte :=
  (effects (s.account rest).1, (s.account rest).2)

theorem State.outcome_of_quiescent (h : s.quiescent) : s.outcome [] = (effects s.trace, s.q) := by
  rw [State.outcome, State.account_of_quiescent h]

@[simp] theorem State.realise_rx (s : State) (cmd : Option TypedCommand) : (s.realise cmd).rx = s.rx := by
  match cmd with
  | some (.setOutput _) => rfl
  | some (.setPeriod _) => rfl
  | none => rfl

theorem TurnEffect.consumer_rx (he : TurnEffect s .consumer t) : t.rx = s.rx := by
  cases he with
  | scanned => simp
  | holds | calledOutput | discarded | foundEmpty | reportedUnderrun | calledPulse | sent => rfl

/-- An accepted byte goes from the bytes offered to the end of the queue. -/
theorem State.Inv.outcome_stored (hi : s.Inv) (hc : s.count < s.cfg.capacity) (b : Byte) (rest : List Byte) :
    (((s.storeByte b).reply (.pushed .ok)).handlerEntry b .ok).outcome rest = s.outcome (b :: rest) := by
  have hq : (((s.storeByte b).reply (.pushed .ok)).handlerEntry b .ok).q ++ rest = s.q ++ b :: rest := by
    rw [q_handlerEntry, q_reply, q_storeByte hi hc, List.append_assoc]; rfl
  have hwork : (((s.storeByte b).reply (.pushed .ok)).handlerEntry b .ok).work = s.work := rfl
  simp only [State.outcome, State.account, hq, hwork, State.handlerEntry_cfg, State.reply_cfg, State.storeByte_cfg,
    State.handlerEntry_trace, State.reply_trace, State.storeByte_trace, effects_append, effects_rx, List.append_nil]

/-- A turn after which no handler runs keeps what the state and the bytes offered (`rest` after them) come to. -/
theorem TurnEffect.outcome_eq {turn : Turn} (hi : s.Inv) (he : TurnEffect s turn t) (hp : s.pst = .idle)
    (ht : t.pst = .idle) (hr : ∀ kept, turn ≠ .reset kept) (rest : List Byte) :
    t.outcome (t.rx ++ rest) = s.outcome (s.rx ++ rest) := by
  cases turn with
  | accept =>
    cases he with
    | holds => rfl
    | stored b waiting _ hrx hc _ =>
      rw [hi.outcome_stored hc, State.handlerEntry_rx, State.reply_rx, State.storeByte_rx, hrx]; rfl
    | overran => cases ht
  | producer =>
    cases he with
    | holds => rfl
    | reported hdiag => cases hp.symm.trans hdiag
  | consumer => rw [he.consumer_rx, State.outcome, he.consumer_account hi]; rfl
  | reset kept => exact absurd rfl (hr kept)

/-! ## Runs without overrun -/

@[simp] theorem noOverrun_append (a b : List Event) : noOverrun (a ++ b) = (noOverrun a && noOverrun b) :=
  List.all_append

/-- Only an overrun starts the handler's wait. -/
theorem TurnEffect.pst_idle {turn : Turn} (he : TurnEffect s turn t) (hp : s.pst = .idle) {events : List Event}
    (htrace : t.trace = s.trace ++ events) (hno : noOverrun events = true) : t.pst = .idle := by
  cases turn with
  | accept =>
    cases he with
    | holds => exact hp
    | stored => rfl
    | overran b =>
      obtain rfl : [.rx b .overrun] = events := List.append_cancel_left htrace
      cases hno
  | producer =>
    cases he with
    | holds => exact hp
    | reported => rfl
  | consumer => exact he.consumer_pst.trans hp
  | reset kept =>
    cases he with
    | holds => exact hp
    | reset => rfl

theorem State.Inv.run_trace (hi : s.Inv) {inputs : List Input} (hr : ∀ i ∈ inputs, i.noReset = true)
    (hrun : runInputs s inputs = .next t) : s.trace <+: t.trace := by
  refine State.Inv.runInputs_relates (R := fun s t => s.trace <+: t.trace) (fun s _ => List.prefix_refl s.trace)
    List.IsPrefix.trans (fun hi hs hr => ?_) inputs hi hr hrun
  obtain ⟨events, htrace, -⟩ := step_fifoAfter hi hs hr
  exact ⟨events, htrace.symm⟩

/-- A run without the reset input and without overrun keeps what the state and the bytes offered come to. -/
theorem State.Inv.run_outcome (inputs : List Input) : ∀ {s : State}, s.Inv → s.pst = .idle →
    (∀ i ∈ inputs, i.noReset = true) → runInputs s inputs = .next t →
    noOverrun (t.trace.drop s.trace.length) = true →
    t.outcome t.rx = s.outcome (s.rx ++ offeredBytes inputs) := by
  induction inputs with
  | nil =>
    intro s _ _ _ hrun _
    cases hrun
    exact congrArg s.outcome (List.append_nil s.rx).symm
  | cons i inputs ih =>
    intro s hi hp hr hrun hno
    obtain ⟨hri, hrest⟩ := List.forall_mem_cons.1 hr
    obtain ⟨u, hstep, hrun'⟩ := runInputs_cons_next hrun
    have hi' := (hi.withInputs (i :: inputs)).sample
    have he := step_effect hstep
    have hiu : u.Inv := hi'.of_turnEffect he
    obtain ⟨now, hnow, -⟩ := step_fifoAfter (hi.withInputs (i :: inputs)) hstep hri
    obtain ⟨later, hlater⟩ := hiu.run_trace hrest hrun'
    have hnow' : u.trace = s.trace ++ now := hnow
    rw [← hlater, hnow', List.append_assoc, List.drop_left, noOverrun_append, Bool.and_eq_true] at hno
    have hpu : u.pst = .idle := he.pst_idle hp hnow' hno.1
    have hnolater : noOverrun (t.trace.drop u.trace.length) = true := by rw [← hlater, List.drop_left]; exact hno.2
    calc t.outcome t.rx
      _ = u.outcome (u.rx ++ offeredBytes inputs) := ih hiu hpu hrest hrun' hnolater
      _ = s.outcome (s.rx ++ i.offer.toList ++ offeredBytes inputs) :=
        he.outcome_eq hi' hp hpu (turn_ne_reset_of_noReset hri) _
      _ = s.outcome (s.rx ++ offeredBytes (i :: inputs)) := congrArg s.outcome (List.append_assoc ..)

/-- Settles O58: both runs end in the one outcome of their start and of the bytes offered. -/
theorem effectsIndependentOfSchedule : Obligations.EffectsIndependentOfSchedule := by
  intro s t u is js hi hp his hjs hoffered hrun hrun' ht hu hrx hrx' hno hno'
  have houtcome : t.outcome t.rx = u.outcome u.rx := by
    rw [hi.run_outcome is hp his hrun hno, hi.run_outcome js hp hjs hrun' hno', hoffered]
  rw [hrx, hrx', State.outcome_of_quiescent ht, State.outcome_of_quiescent hu] at houtcome
  exact Prod.ext_iff.1 houtcome

/-! ## The frames of a safe stream -/

theorem esc_bit_zero (p : U16) : (esc p).getLsbD 0 = decide (upperByte p = Config.marker) := by
  unfold esc
  split_ifs <;> simp [*]

theorem esc_bit_one (p : U16) : (esc p).getLsbD 1 = decide (lowerByte p = Config.marker) := by
  unfold esc
  split_ifs <;> simp [*]

/-- A byte sent as itself unless it is the marker is restored by its escape bit (R150). -/
theorem restore_sent {raw b : Byte} (hraw : b ≠ Config.marker → raw = b) :
    restore raw (decide (b = Config.marker)) = b := by
  by_cases hb : b = Config.marker
  · simp [restore, hb]
  · simp [restore, hb, hraw hb]

/-- A period is decoded whatever a sender puts in the place of its marker bytes (R83, R153). -/
theorem decodePeriod_sent {p : U16} {h l : Byte} (hh : upperByte p ≠ Config.marker → h = upperByte p)
    (hl : lowerByte p ≠ Config.marker → l = lowerByte p) : decodePeriod h l (esc p) = p := by
  rw [decodePeriod, esc_bit_zero, esc_bit_one, restore_sent hh, restore_sent hl, joinBytes_upperByte_lowerByte]

theorem stuff_of_ne_marker {b : Byte} (hb : b ≠ Config.marker) : stuff b = b := if_neg hb

theorem drain_setPeriod (c : Config) (h l e : Byte) (rest : List Byte) :
    drain c (Config.marker :: Config.cmdSetPeriod :: h :: l :: e :: rest) =
      (periodEvents (decodePeriod h l e) ++ (drain c rest).1, (drain c rest).2) :=
  drain_of_window c Config.marker Config.cmdSetPeriod h l e rest

theorem drain_outOn (c : Config) (h l e : Byte) (rest : List Byte) :
    let r := drain c ((Config.marker :: Config.cmdOutOn :: h :: l :: e :: rest).drop (outputDrop c))
    drain c (Config.marker :: Config.cmdOutOn :: h :: l :: e :: rest) = (.out true :: r.1, r.2) :=
  drain_of_window c Config.marker Config.cmdOutOn h l e rest

theorem drain_outOff (c : Config) (h l e : Byte) (rest : List Byte) :
    let r := drain c ((Config.marker :: Config.cmdOutOff :: h :: l :: e :: rest).drop (outputDrop c))
    drain c (Config.marker :: Config.cmdOutOff :: h :: l :: e :: rest) = (.out false :: r.1, r.2) :=
  drain_of_window c Config.marker Config.cmdOutOff h l e rest

/-- Of a SetOutput frame the policy leaves nothing, or all but the marker (R125, R134). -/
theorem drop_outputDrop (c : Config) (cmd h l e : Byte) (rest : List Byte) :
    (Config.marker :: cmd :: h :: l :: e :: rest).drop (outputDrop c) =
      itemLeftover c (.frame cmd h l e) ++ rest := by
  unfold outputDrop itemLeftover
  cases c.policy <;> rfl

theorem itemLeftover_outOn (c : Config) :
    itemLeftover c .outOn = itemLeftover c (.frame Config.cmdOutOn 0x00#8 0x00#8 0x00#8) := by
  unfold itemLeftover
  cases c.policy <;> rfl

theorem itemLeftover_outOff (c : Config) :
    itemLeftover c .outOff = itemLeftover c (.frame Config.cmdOutOff 0x00#8 0x00#8 0x00#8) := by
  unfold itemLeftover
  cases c.policy <;> rfl

/-- A frame of a safe stream at the head of the queue has its effect, and leaves its rest. -/
theorem drain_expand (c : Config) {item : StreamItem} (hs : safeItem c item = true) (rest : List Byte) :
    let r := drain c (itemLeftover c item ++ rest)
    drain c (item.expand ++ rest) = (itemEffect item ++ r.1, r.2) := by
  cases item with
  | bytes | response => cases hs
  | setPeriod p =>
    have hp : decodePeriod (upperByte p) (lowerByte p) (esc p) = p := decodePeriod_sent (fun _ => rfl) fun _ => rfl
    exact (drain_setPeriod c _ _ _ rest).trans (by rw [hp]; rfl)
  | setPeriodStuffed p =>
    have hp : decodePeriod (stuff (upperByte p)) (stuff (lowerByte p)) (esc p) = p :=
      decodePeriod_sent stuff_of_ne_marker stuff_of_ne_marker
    exact (drain_setPeriod c _ _ _ rest).trans (by rw [hp]; rfl)
  | outOn => rw [itemLeftover_outOn, ← drop_outputDrop]; exact drain_outOn c _ _ _ rest
  | outOff => rw [itemLeftover_outOff, ← drop_outputDrop]; exact drain_outOff c _ _ _ rest
  | frame cmd h l e =>
    rw [← drop_outputDrop]
    simp only [safeItem, Bool.and_eq_true, Bool.or_eq_true, beq_iff_eq] at hs
    obtain ⟨rfl | rfl, -⟩ := hs
    · exact drain_outOn c h l e rest
    · exact drain_outOff c h l e rest

/-! ## A safe stream -/

theorem drain_of_ne_marker (c : Config) {b : Byte} (hb : b ≠ Config.marker) {rest : List Byte}
    (hlen : 4 ≤ rest.length) : drain c (b :: rest) = drain c rest := by
  obtain ⟨m, cmd, h, l, e, tail, hq⟩ := exists_window (q := b :: rest) (Nat.succ_le_succ hlen)
  obtain ⟨rfl, rfl⟩ := List.cons.inj hq
  rw [drain_of_window, classify_of_ne_marker hb]; rfl

/-- Bytes that are no marker are discarded one by one in front of what follows (R123). -/
theorem drain_skip (c : Config) {rest : List Byte} (hlen : 4 ≤ rest.length) (bs : List Byte)
    (hbs : ∀ b ∈ bs, b ≠ Config.marker) : drain c (bs ++ rest) = drain c rest := by
  induction bs with
  | nil => rfl
  | cons b bs ih =>
    obtain ⟨hb, hbs'⟩ := List.forall_mem_cons.1 hbs
    have hlen' : 4 ≤ (bs ++ rest).length := by rw [List.length_append]; omega
    exact (drain_of_ne_marker c hb hlen').trans (ih hbs')

theorem expand_length {c : Config} {item : StreamItem} (hs : safeItem c item = true) : item.expand.length = 5 := by
  cases item with
  | bytes => cases hs
  | frame | setPeriod | setPeriodStuffed | outOn | outOff | response => rfl

theorem itemLeftover_length_lt (c : Config) (item : StreamItem) : (itemLeftover c item).length < 5 := by
  unfold itemLeftover
  split <;> simp [StreamItem.expand]

theorem ne_marker_of_mem_frame_leftover {c : Config} {cmd h l e : Byte} (hcmd : cmd ≠ Config.marker)
    (hsafe : c.policy = .faithful → h ≠ Config.marker ∧ l ≠ Config.marker ∧ e ≠ Config.marker) :
    ∀ b ∈ itemLeftover c (.frame cmd h l e), b ≠ Config.marker := by
  cases hpol : c.policy with
  | faithful => simpa [itemLeftover, hpol, StreamItem.expand, hcmd] using hsafe hpol
  | uniform => simp [itemLeftover, hpol]

/-- What a safe frame leaves holds no marker (R256). -/
theorem itemLeftover_ne_marker {c : Config} {item : StreamItem} (hs : safeItem c item = true) :
    ∀ b ∈ itemLeftover c item, b ≠ Config.marker := by
  cases item with
  | bytes | response => cases hs
  | setPeriod | setPeriodStuffed => exact nofun
  | outOn =>
    rw [itemLeftover_outOn]
    exact ne_marker_of_mem_frame_leftover (by decide) fun _ => by decide
  | outOff =>
    rw [itemLeftover_outOff]
    exact ne_marker_of_mem_frame_leftover (by decide) fun _ => by decide
  | frame cmd h l e =>
    simp only [safeItem, Bool.and_eq_true, Bool.or_eq_true, beq_iff_eq, bne_iff_ne] at hs
    obtain ⟨hcmd, hpayload⟩ := hs
    refine ne_marker_of_mem_frame_leftover ?_ fun hpol => ?_
    · rcases hcmd with rfl | rfl <;> decide
    · simpa [hpol, and_assoc] using hpayload

/-- The scan passes over a safe stream have its frames' effects and leave the last one's rest. -/
theorem drain_safe (c : Config) (items : List StreamItem) (hs : ∀ item ∈ items, safeItem c item = true) :
    drain c (expandAll items) = (items.flatMap itemEffect, streamLeftover c items) := by
  induction items with
  | nil => exact drain_of_short c (by decide)
  | cons item items ih =>
    obtain ⟨hitem, hitems⟩ := List.forall_mem_cons.1 hs
    refine (drain_expand c hitem (expandAll items)).trans ?_
    cases items with
    | nil =>
      have hleft : drain c (itemLeftover c item ++ []) = ([], itemLeftover c item) := by
        rw [List.append_nil]
        exact drain_of_short c (itemLeftover_length_lt c item)
      rw [expandAll, List.flatMap_nil, hleft]; rfl
    | cons next items =>
      have hlen : 4 ≤ (expandAll (next :: items)).length := by
        rw [expandAll, List.flatMap_cons, List.length_append, expand_length (hitems next List.mem_cons_self)]
        omega
      rw [drain_skip c hlen _ (itemLeftover_ne_marker hitem), ih hitems]; rfl

theorem effects_itemEffect (item : StreamItem) : effects (itemEffect item) = itemEffect item := by
  cases item <;> rfl

theorem effects_flatMap_itemEffect (items : List StreamItem) :
    effects (items.flatMap itemEffect) = items.flatMap itemEffect := by
  induction items with
  | nil => rfl
  | cons item items ih => rw [List.flatMap_cons, effects_append, effects_itemEffect, ih]

/-- Settles O59: the outcome of the start and of the stream's bytes is that of its scan passes. -/
theorem safeStreamHasItsEffects : Obligations.SafeStreamHasItsEffects := by
  intro s t items inputs hi hp hcst hempty hrx _ hs hr hoffered hrun hquiet hrxt hno
  have houtcome := hi.run_outcome inputs hp hr hrun hno
  rw [hrxt, State.outcome_of_quiescent hquiet, hrx, hoffered, State.outcome, s.account_of_idle hcst,
    q_of_count_zero hempty, List.nil_append, List.nil_append, drain_safe s.cfg items hs, effects_append,
    effects_flatMap_itemEffect] at houtcome
  exact Prod.ext_iff.1 houtcome

end Sys2Proof.Machine
end

section
/-! The family of 42_decoder.md: the decoded period by value (R150, R151), which payload bytes and mask bits it depends on
(R153, R154), and the payload of a response (R157). -/

namespace Sys2Proof

/-- The big-endian value of two bytes (R75). -/
theorem joinBytes_toNat (h l : Byte) : (joinBytes h l).toNat = 256 * h.toNat + l.toNat := by
  have hhigh : (h.setWidth 16).toNat = h.toNat := BitVec.toNat_setWidth_of_le (by decide)
  have hlow : (l.setWidth 16).toNat = l.toNat := BitVec.toNat_setWidth_of_le (by decide)
  have hshift : h.toNat <<< 8 < 2 ^ 16 := by rw [Nat.shiftLeft_eq]; omega
  calc (joinBytes h l).toNat
      = h.toNat <<< 8 ||| l.toNat := by
        rw [joinBytes, BitVec.toNat_or, BitVec.toNat_shiftLeft, hhigh, hlow, Nat.mod_eq_of_lt hshift]
    _ = h.toNat <<< 8 + l.toNat := (Nat.shiftLeft_add_eq_or_of_lt l.isLt _).symm
    _ = 256 * h.toNat + l.toNat := by rw [Nat.shiftLeft_eq, Nat.mul_comm]

end Sys2Proof

namespace Sys2Proof.Machine

/-! ## Restoring a byte -/

theorem restore_true (b : Byte) : restore b true = Config.marker := rfl

theorem restore_marker (bit : Bool) : restore Config.marker bit = Config.marker := by
  cases bit <;> rfl

theorem restore_toNat (raw : Byte) (bit : Bool) :
    (restore raw bit).toNat = if bit = true then 255 else raw.toNat := by
  cases bit <;> rfl

/-- Settles O6: the two restored bytes, high byte first. -/
theorem decodedPeriodValue : Obligations.DecodedPeriodValue := by
  intro fh fl fe
  rw [decodePeriod, joinBytes_toNat, restore_toNat, restore_toNat]

/-! ## What the decoded period depends on -/

/-- Payloads whose bytes are restored alike decode alike. -/
theorem decodePeriod_congr {h h' l l' e e' : Byte} (hh : restore h (e.getLsbD 0) = restore h' (e'.getLsbD 0))
    (hl : restore l (e.getLsbD 1) = restore l' (e'.getLsbD 1)) : decodePeriod h l e = decodePeriod h' l' e' := by
  rw [decodePeriod, decodePeriod, hh, hl]

/-- A high byte with its escape bit set decodes as a raw marker with the bit clear. -/
theorem decodePeriod_escaped_high (b l e : Byte) :
    decodePeriod b l (e ||| 0x01#8) = decodePeriod Config.marker l (e &&& 0xFE#8) := by
  have hset : (e ||| 0x01#8).getLsbD 0 = true := by simp
  have hother : (e ||| 0x01#8).getLsbD 1 = (e &&& 0xFE#8).getLsbD 1 := by simp
  refine decodePeriod_congr ?_ (congrArg (restore l) hother)
  rw [hset, restore_true, restore_marker]

/-- A low byte with its escape bit set decodes as a raw marker with the bit clear. -/
theorem decodePeriod_escaped_low (h b e : Byte) :
    decodePeriod h b (e ||| 0x02#8) = decodePeriod h Config.marker (e &&& 0xFD#8) := by
  have hset : (e ||| 0x02#8).getLsbD 1 = true := by simp
  have hother : (e ||| 0x02#8).getLsbD 0 = (e &&& 0xFD#8).getLsbD 0 := by simp
  refine decodePeriod_congr (congrArg (restore h) hother) ?_
  rw [hset, restore_true, restore_marker]

/-- Settles O8: by the laws of `restore`, position by position, and `decodePeriod_sent` for what a sender writes. -/
theorem rawAndEscapedMarkersDecodeAlike : Obligations.RawAndEscapedMarkersDecodeAlike :=
  ⟨restore_marker false, restore_marker true, restore_true, fun _ hb heq => hb heq.symm, decodePeriod_escaped_high,
    decodePeriod_escaped_low, fun _ =>
      ⟨decodePeriod_sent (fun _ => rfl) fun _ => rfl, decodePeriod_sent stuff_of_ne_marker stuff_of_ne_marker⟩⟩

/-- Settles O7: the mask 0x03 keeps the two bits that restore the bytes. -/
theorem maskBitsSevenToTwoIgnored : Obligations.MaskBitsSevenToTwoIgnored := by
  intro fh fl fe
  have hzero : fe.getLsbD 0 = (fe &&& 0x03#8).getLsbD 0 := by simp
  have hone : fe.getLsbD 1 = (fe &&& 0x03#8).getLsbD 1 := by simp
  exact decodePeriod_congr (congrArg (restore fh) hzero) (congrArg (restore fl) hone)

/-! ## The payload of a response -/

/-- Settles O10: a response carries its period's bytes as they are, under the command byte of OUTON. -/
theorem responsePayloadRoundTrip : Obligations.ResponsePayloadRoundTrip := fun _ =>
  ⟨decodePeriod_sent (fun _ => rfl) fun _ => rfl, rfl⟩

end Sys2Proof.Machine
end

section
/-! The family of 43_dispatch_response.md. First the values: the duties of the pulse generator's call (R171) and the
bytes of a response (R173). -/

namespace Sys2Proof

/-! ## The bytes of a period, by value -/

theorem upperByte_toNat (p : U16) : (upperByte p).toNat = p.toNat / 256 := by
  have hlt : p.toNat / 256 < 2 ^ 8 := by omega
  rw [upperByte, BitVec.toNat_setWidth, BitVec.toNat_ushiftRight, Nat.shiftRight_eq_div_pow, Nat.mod_eq_of_lt hlt]

theorem lowerByte_toNat (p : U16) : (lowerByte p).toNat = p.toNat % 256 := BitVec.toNat_setWidth 8 p

theorem upperByte_eq_ofNat (p : U16) : upperByte p = BitVec.ofNat 8 (p.toNat / 256) := by
  rw [← upperByte_toNat, BitVec.ofNat_toNat, BitVec.setWidth_eq]

theorem lowerByte_eq_ofNat (p : U16) : lowerByte p = BitVec.ofNat 8 (p.toNat % 256) := by
  rw [← lowerByte_toNat, BitVec.ofNat_toNat, BitVec.setWidth_eq]

theorem eq_marker_iff_toNat (b : Byte) : b = Config.marker ↔ b.toNat = 255 := BitVec.toNat_inj.symm

/-! ## The mask of a response -/

/-- Bit 0 stands for the upper byte, bit 1 for the lower one (R78, R173). -/
theorem esc_eq_ofNat (p : U16) : esc p =
    BitVec.ofNat 8 ((if p.toNat / 256 = 255 then 1 else 0) + (if p.toNat % 256 = 255 then 2 else 0)) := by
  simp only [esc, eq_marker_iff_toNat, upperByte_toNat, lowerByte_toNat]
  split_ifs <;> rfl

theorem esc_toNat_lt (p : U16) : (esc p).toNat < 2 ^ 2 := by
  unfold esc
  split_ifs <;> decide

theorem esc_ne_marker (p : U16) : esc p ≠ Config.marker := fun heq => by
  have hlt := esc_toNat_lt p
  rw [(eq_marker_iff_toNat _).1 heq] at hlt
  omega

theorem esc_getLsbD_of_two_le (p : U16) {k : Nat} (hk : 2 ≤ k) : (esc p).getLsbD k = false :=
  Nat.testBit_lt_two_pow ((esc_toNat_lt p).trans_le (Nat.pow_le_pow_right Nat.two_pos hk))

/-- Settles O9: the period's two bytes and the mask by value; the mask is below 4. -/
theorem responseFrameBytes : Obligations.ResponseFrameBytes := by
  intro p
  refine ⟨?_, esc_ne_marker p, fun k hk => esc_getLsbD_of_two_le p hk⟩
  rw [← upperByte_eq_ofNat, ← lowerByte_eq_ofNat, ← esc_eq_ofNat]; rfl

end Sys2Proof

namespace Sys2Proof.Machine

/-! ## The duties -/

theorem dutyA_eq_shiftRight (p : U16) : dutyA p = p >>> 1 :=
  BitVec.udiv_twoPow_eq_of_lt (k := 1) (by decide : 1 < 16)

theorem dutyB_eq_shiftRight (p : U16) : dutyB p = p >>> 2 :=
  BitVec.udiv_twoPow_eq_of_lt (k := 2) (by decide : 2 < 16)

theorem dutyA_toNat (p : U16) : (dutyA p).toNat = p.toNat / 2 := BitVec.toNat_udiv

theorem dutyB_toNat (p : U16) : (dutyB p).toNat = p.toNat / 4 := BitVec.toNat_udiv

/-- Settles O11: word division is the floor of the quotient, and by a power of two it is a shift. -/
theorem dutyIsTruncatedDivision : Obligations.DutyIsTruncatedDivision := by
  intro p
  refine ⟨dutyA_toNat p, dutyB_toNat p, dutyA_eq_shiftRight p, dutyB_eq_shiftRight p, ?_, ?_⟩
  · rw [BitVec.le_def, dutyA_toNat]
    exact Nat.div_le_self _ _
  · rw [BitVec.le_def, dutyB_toNat]
    exact Nat.div_le_self _ _

end Sys2Proof.Machine
end

section
/-! The family of 43_dispatch_response.md: the pulse generator's call (R170), what each transmission does when it sends
and while it waits, what it writes (R173, R175 to R178), and the response sent over a run. -/

namespace Sys2Proof.Machine

variable {s t u : State}

/-! ## The transmissions as operations -/

theorem exec_response_of_pg (hcst : s.cst = .pg) (p : U16) :
    exec (.response p) s = consumerOnly s (s.startResponse p) := by
  simp only [exec, execResponse, hcst]

theorem exec_response_of_tx (hcst : s.cst = .tx) (p : U16) : exec (.response p) s = sendResponseByte s := by
  simp only [exec, execResponse, hcst]

theorem exec_response_of_ne (hpg : s.cst ≠ .pg) (htx : s.cst ≠ .tx) (p : U16) : exec (.response p) s = .next s := by
  cases hcst : s.cst with
  | pg => exact absurd hcst hpg
  | tx => exact absurd hcst htx
  | idle | out | drop | udiag => simp only [exec, execResponse, hcst, hold]

theorem exec_diagU_of_udiag (hcst : s.cst = .udiag) : exec .diagU s = sendUnderrunByte s := if_pos hcst

theorem exec_diagU_of_ne_udiag (hcst : s.cst ≠ .udiag) : exec .diagU s = .next s := if_neg hcst

theorem exec_diagE_of_not_ready (hr : s.txReady = false) : exec .diagE s = .next s :=
  producerStep_of_not_enabled (by simp [hr])

theorem exec_diagU_of_not_ready (hr : s.txReady = false) : exec .diagU s = .next s := by
  by_cases hcst : s.cst = .udiag
  · rw [exec_diagU_of_udiag hcst, sendUnderrunByte_of_not_ready hr]
  · exact exec_diagU_of_ne_udiag hcst

theorem exec_response_of_not_ready (hcst : s.cst = .tx) (hn : s.rsn ≤ 4) (hr : s.txReady = false) (p : U16) :
    exec (.response p) s = .next s := by
  rw [exec_response_of_tx hcst, sendResponseByte_of_not_ready (Nat.lt_succ_of_le hn) hr]

/-! ## One step of each -/

/-- Settles O26: the `S_PG` step of SETPERIOD is the call, whatever payload it names. -/
theorem setPeriodCall : Obligations.SetPeriodCall := by
  intro s h l e hp hcst
  rw [exec_setperiod_of_pg hcst]
  exact callPulseGenerator_of_idle hp

/-- Settles O30: with transmit ready the handler's step sends. -/
theorem overrunDiagnosticSent : Obligations.OverrunDiagnosticSent := fun _ => producerStep_of_enabled

/-- Settles O31: with transmit ready the `S_UDIAG` step sends and goes where the discards stand. -/
theorem underrunDiagnosticSent : Obligations.UnderrunDiagnosticSent := by
  intro s hp hcst hr
  rw [exec_diagU_of_udiag hcst]
  exact transmitOnly_of_ready hp hr _

/-- Settles O32, transmission by transmission. -/
theorem transmissionsWaitForReady : Obligations.TransmissionsWaitForReady := fun _ hr =>
  ⟨exec_diagE_of_not_ready hr, exec_diagU_of_not_ready hr, fun p hcst hn => exec_response_of_not_ready hcst hn hr p⟩

/-! ## What a transmission writes -/

/-- RESPONSE is built in `S_PG`, sent in `S_TX`, and holds elsewhere. -/
theorem response_frame {p : U16} (hx : exec (.response p) s = .next t) :
    { t with rsp := s.rsp, rsn := s.rsn, cst := s.cst, trace := s.trace } = s ∧
    (s.cst = .tx → t.rsp = s.rsp) ∧ ∀ a, t.mem.read a = s.mem.read a := by
  by_cases hpg : s.cst = .pg
  · rw [exec_response_of_pg hpg] at hx
    have hnot : s.cst ≠ .tx := by simp [hpg]
    rcases consumerOnly_next hx with ⟨-, rfl⟩ | ⟨-, rfl⟩ <;>
      exact ⟨rfl, fun htx => absurd htx hnot, fun _ => rfl⟩
  by_cases htx : s.cst = .tx
  · rw [exec_response_of_tx htx] at hx
    rcases sendResponseByte_next hx with ⟨b, -, -, -, rfl⟩ | rfl <;> exact ⟨rfl, fun _ => rfl, fun _ => rfl⟩
  · rw [exec_response_of_ne hpg htx] at hx
    cases hx
    exact ⟨rfl, fun _ => rfl, fun _ => rfl⟩

theorem diagE_frame (hx : exec .diagE s = .next t) :
    { t with pst := s.pst, trace := s.trace } = s ∧ ∀ a, t.mem.read a = s.mem.read a := by
  cases producerStep_effect hx <;> exact ⟨rfl, fun _ => rfl⟩

theorem diagU_frame (hx : exec .diagU s = .next t) :
    { t with cst := s.cst, trace := s.trace } = s ∧ ∀ a, t.mem.read a = s.mem.read a := by
  by_cases hcst : s.cst = .udiag
  · rw [exec_diagU_of_udiag hcst] at hx
    rcases transmitOnly_next hx with ⟨-, -, rfl⟩ | rfl <;> exact ⟨rfl, fun _ => rfl⟩
  · rw [exec_diagU_of_ne_udiag hcst] at hx
    cases hx
    exact ⟨rfl, fun _ => rfl⟩

/-- Settles O33, transmission by transmission. -/
theorem transmissionsFrame : Obligations.TransmissionsFrame := fun _ _ _ => ⟨response_frame, diagE_frame, diagU_frame⟩

/-! ## The response over a run -/

/-- With `n` bytes of the response to send, `n` consumer turns send them in order and end in `S_IDLE` (R175). -/
theorem run_response (n : Nat) : ∀ {s : State}, s.pst = .idle → s.rsn + n = 5 →
    s.cst = (if s.rsn = 5 then .idle else .tx) →
    ∃ t, runInputs s (consumerTurns n) = .next t ∧ t.trace = s.trace ++ (s.rsp.toList.drop s.rsn).map .tx ∧
      t.rsn = 5 ∧ t.cst = .idle := by
  induction n with
  | zero =>
    intro s _ hn hcst
    have h5 : s.rsn = 5 := hn
    rw [if_pos h5] at hcst
    exact ⟨_, runInputs_nil s, by rw [h5]; exact (List.append_nil _).symm, h5, hcst⟩
  | succ n ih =>
    intro s hp hn hcst
    have hlt : s.rsn < 5 := by omega
    rw [if_neg hlt.ne] at hcst
    obtain ⟨b, hb⟩ := frameByte_of_lt s.rsp hlt
    obtain ⟨hget, hval⟩ := List.getElem?_eq_some_iff.1 (show s.rsp.toList[s.rsn]? = some b from hb)
    have hstep := (consumerStep_sendsResponse (s := s.readied (consumerTurns n)) hp hcst).trans
      (sendResponseByte_of_ready (s := s.readied (consumerTurns n)) hp rfl hb)
    have hnext : (if s.rsn = 4 then .idle else .tx : CState) = if s.rsn + 1 = 5 then .idle else .tx :=
      if_congr (by omega) rfl rfl
    obtain ⟨t, ht, htrace, hrsn, hidle⟩ :=
      ih (s := ((s.readied (consumerTurns n)).emit (.tx b)).advanceResponse) hp
        ((Nat.succ_add_eq_add_succ s.rsn n).trans hn) hnext
    refine ⟨t, (runInputs_consumer_next hstep).trans ht, ?_, hrsn, hidle⟩
    calc t.trace
      _ = s.trace ++ [.tx b] ++ (s.rsp.toList.drop (s.rsn + 1)).map .tx := htrace
      _ = s.trace ++ (s.rsp.toList.drop s.rsn).map .tx := by
        rw [List.drop_eq_getElem_cons hget, hval, List.append_assoc]; rfl

/-- Settles O29: built in `S_PG`, sent or held in `S_TX`, and five turns from the first byte send all five. -/
theorem responseSentByteByByte : Obligations.ResponseSentByteByByte := by
  refine ⟨fun s p hp hcst => ?_, fun s p b hp hcst hr hb => ?_, fun s p hcst hn hr => ?_, fun s hp hcst hn => ?_⟩
  · rw [exec_response_of_pg hcst]
    exact consumerOnly_of_idle hp _
  · rw [exec_response_of_tx hcst]
    exact sendResponseByte_of_ready hp hr hb
  · exact exec_response_of_not_ready hcst hn hr p
  · have hrun := run_response 5 hp (by rw [hn]) (by rw [hcst, hn]; rfl)
    rwa [hn] at hrun

end Sys2Proof.Machine
end

section
/-! The family of 43_dispatch_response.md: the step each event comes from (R204), and the block while transmit is not
ready (R176, R217). -/

namespace Sys2Proof.Machine

variable {s t u : State}

/-! ## The step an event comes from -/

/-- Settles O42, by the effect of the turn. -/
theorem eventsComeFromTheirSteps : Obligations.EventsComeFromTheirSteps := by
  intro s t hs
  have he : TurnEffect s.sample s.nextInput.turn t := step_effect hs
  generalize s.nextInput.turn = turn at he ⊢
  cases he with
  | holds | discarded | foundEmpty | reset => exact .inl rfl
  | scanned => exact .inl (State.realise_trace _ _)
  | stored b rest hp hrx hc _ =>
    have hnotfull : PushStatus.ok = .overrun ↔ s.cfg.capacity ≤ s.count := by simpa using hc
    exact .inr ⟨.rx b .ok, rfl, rfl, hp, congrArg List.head? hrx, hnotfull⟩
  | overran b rest hp hrx hc =>
    exact .inr ⟨.rx b .overrun, rfl, rfl, hp, congrArg List.head? hrx, iff_of_true rfl hc⟩
  | calledOutput hp hcst => exact .inr ⟨.out s.outv, rfl, rfl, hp, hcst, rfl⟩
  | calledPulse hp hcst => exact .inr ⟨.pg s.period _ _, rfl, rfl, hp, hcst, rfl, rfl, rfl⟩
  | reported hp hr => exact .inr ⟨.tx diagOverrun, rfl, hr, .inl ⟨rfl, hp, rfl⟩⟩
  | sent b hp hcst hr hb => exact .inr ⟨.tx b, rfl, hr, .inr ⟨rfl, hp, .inl ⟨hcst, hb⟩⟩⟩
  | reportedUnderrun hp hcst hr =>
    exact .inr ⟨.tx diagUnderrun, rfl, hr, .inr ⟨rfl, hp, .inr ⟨hcst, rfl⟩⟩⟩

/-! ## While transmit is not ready -/

/-- The consumer has a byte to send. -/
def State.Waiting (s : State) : Prop := s.cst = .tx ∨ s.cst = .udiag

/-- From `s` to `t` the consumer stays where it is, nothing but arrivals happens, and a running handler stays running. -/
structure State.StallsTo (s t : State) : Prop where
  cst : t.cst = s.cst
  rsn : t.rsn = s.rsn
  period : t.period = s.period
  noEffect : effects t.trace = effects s.trace
  handler : s.pst = .diag → t.pst = .diag

theorem State.StallsTo.trans (hsu : s.StallsTo u) (hut : u.StallsTo t) : s.StallsTo t where
  cst := hut.cst.trans hsu.cst
  rsn := hut.rsn.trans hsu.rsn
  period := hut.period.trans hsu.period
  noEffect := hut.noEffect.trans hsu.noEffect
  handler hp := hut.handler (hsu.handler hp)

/-- Without transmit ready only an arrival has an effect in the states in which the consumer has a byte to send. -/
theorem TurnEffect.stalls {turn : Turn} (he : TurnEffect s turn t) (hw : s.Waiting) (hr : s.txReady = false)
    (hturn : ∀ kept, turn ≠ .reset kept) : s.StallsTo t := by
  cases he with
  | holds => exact ⟨rfl, rfl, rfl, rfl, id⟩
  | stored b _ hp | overran b _ hp =>
    refine ⟨rfl, rfl, rfl, ?_, fun hdiag => ?_⟩
    · simp
    · cases hp.symm.trans hdiag
  | reported _ hready | reportedUnderrun _ _ hready | sent _ _ _ hready => cases hr.symm.trans hready
  | scanned _ _ hcst | calledOutput _ hcst | discarded _ hcst | foundEmpty _ hcst | calledPulse _ hcst =>
    rcases hw with hw | hw <;> cases hw.symm.trans hcst
  | reset kept => exact absurd rfl (hturn kept)

/-- A step on the first draw, then a run over the rest. -/
theorem runInputs_cons {i : Input} {rest : List Input} (h : step { s with inputs := i :: rest } = .next u) :
    runInputs s (i :: rest) = runInputs u rest := by
  have hrest : u.inputs = rest := (step_effect h).inputs_eq
  rw [runInputs, List.length_cons, run_succ h, runInputs, ← hrest]

theorem State.Inv.run_stalls (inputs : List Input) : ∀ {s : State}, s.Inv → s.Waiting →
    (∀ i ∈ inputs, i.txReady = false ∧ i.noReset = true) → ∃ t, runInputs s inputs = .next t ∧ s.StallsTo t := by
  induction inputs with
  | nil => exact fun {s} _ _ _ => ⟨_, runInputs_nil s, rfl, rfl, rfl, rfl, id⟩
  | cons i rest ih =>
    intro s hi hw hin
    obtain ⟨⟨hr, hreset⟩, hrest⟩ := List.forall_mem_cons.1 hin
    have hi' := hi.withInputs (i :: rest)
    obtain ⟨u, hu⟩ := hi'.step_answers
    have hsample := (step_effect hu).stalls hw hr (turn_ne_reset_of_noReset hreset)
    have hsu : s.StallsTo u := ⟨hsample.cst, hsample.rsn, hsample.period, hsample.noEffect, hsample.handler⟩
    have hwu : u.Waiting := hw.imp hsu.cst.trans hsu.cst.trans
    obtain ⟨t, ht, hut⟩ := ih (stepKeepsInvariant _ _ hi' hu) hwu hrest
    exact ⟨t, (runInputs_cons hu).trans ht, hsu.trans hut⟩

/-- Settles O56: each step of the run stalls, and leaves a byte to send. -/
theorem transmitStallHolds : Obligations.TransmitStallHolds := by
  intro s inputs hi hw hin
  obtain ⟨t, ht, hstall⟩ := hi.run_stalls inputs hw hin
  exact ⟨t, ht, hstall.cst, hstall.rsn, hstall.period, hstall.noEffect, hstall.handler⟩

end Sys2Proof.Machine
end

section
/-! The family of 60_exceptions.md: no step stops (R206, R216), an accepted byte and the consumer (R210), and the block
while the arrival handler runs (R203). -/

namespace Sys2Proof.Machine

variable {s : State}

/-! ## No step stops -/

/-- Settles O50: the invariant outlives the draw, and every turn answers under it (`State.Inv.takeTurn_answers`). -/
theorem stepNeverStops : Obligations.StepNeverStops := fun _ hi => hi.step_answers

/-! ## An accepted byte and the consumer -/

/-- Settles O36, by the effect of the accept turn: what is kept is read off the updates, and only a stored byte writes
memory, at `head`. -/
theorem arrivalLeavesConsumer : Obligations.ArrivalLeavesConsumer := by
  intro s t hturn hs
  have he : TurnEffect s.sample .accept t := hturn ▸ step_effect hs
  cases he with
  | holds => exact ⟨rfl, fun _ _ => rfl⟩
  | stored => exact ⟨rfl, fun _ ha => Memory.read_write_ne _ _ _ ha⟩
  | overran => exact ⟨rfl, fun _ _ => rfl⟩

/-! ## While the handler runs -/

theorem acceptStep_of_handler (hp : s.pst = .diag) : acceptStep s = .next s :=
  acceptStep_of_not_enabled fun ⟨hidle, _⟩ => by cases hp.symm.trans hidle

/-- In `P_DIAG` only the reset input and the producer with transmit ready have a step. -/
theorem takeTurn_of_handler {turn : Turn} (hp : s.pst = .diag) (hreset : ∀ kept, turn ≠ .reset kept)
    (hready : turn = .producer → s.txReady = false) : takeTurn s turn = .next s := by
  cases turn with
  | accept => exact acceptStep_of_handler hp
  | producer => exact (producerStep_of_handler hp).trans (sendOverrunByte_of_not_ready (hready rfl))
  | consumer => exact consumerStep_of_handler hp
  | reset kept => exact absurd rfl (hreset kept)

/-- Settles O37: with the draw taken the handler still runs, and no turn left has a step. -/
theorem handlerRunsToCompletion : Obligations.HandlerRunsToCompletion := fun s hp hr hready =>
  takeTurn_of_handler (s := s.sample) hp (turn_ne_reset_of_noReset hr) hready

end Sys2Proof.Machine
end
